-- ==== Sys2Proof/Word.lean ====
section
/-! DEFINITION. The two word types of the pick ring: a byte and a 16-bit value. -/

namespace Sys2Proof

/-- One byte of a ring frame. -/
abbrev Byte := BitVec 8

/-- A 16-bit value of a ring frame: a node slot, a tag, a CRC, a two-byte argument. -/
abbrev Half := BitVec 16

end Sys2Proof
end

