-- ==== Sys2Proof/Syntax.lean ====
section
/-! DEFINITION. The commands of spec/opcode_table.json, one constructor of `Instr` for each row, and the data their
operands carry. A ring row carries the header of the frame that brings it (R168). -/

namespace Sys2Proof

/-- What the receiver sees on RING IN between delimiters (R154). -/
inductive LineSymbol where
  /-- One of the 256 byte values. -/
  | byte (b : Byte)
  /-- The idle symbol. -/
  | idle
  /-- A symbol that is no byte value, no delimiter and not idle: a line-code error. -/
  | error
  deriving DecidableEq, Repr

/-- The part of a good frame's header that every ring row carries: destination, tag and the four node slots as they
arrived (R168). -/
structure Header where
  dest : Byte
  tag : Half
  slots : Vector Half 4
  deriving DecidableEq, Repr

/-- A magnet finding of a status word (R112). -/
inductive Finding where
  | ok
  | opened
  | shorted
  deriving DecidableEq, Repr

/-- The status word of one module (R112). -/
structure StatusWord where
  present : Bool
  overcurrent : Bool
  magnets : Vector Finding 16
  deriving DecidableEq, Repr

/-- The commands. The names are the rows' mnemonics. -/
inductive Instr where
  /-- POWER_ON (R192). -/
  | powerOn
  /-- ENCODER_STEP (R60): the new levels of ENC A, ENC B and ENC Z. -/
  | encoderStep (a b z : Bool)
  /-- INDEX_LOST (R64). -/
  | indexLost
  /-- CAPTURE_EXPIRY (R66). -/
  | captureExpiry
  /-- LOOM_INPUT0_EDGE (R90): the new level of loom input 0. -/
  | loomInput0Edge (level : Bool)
  /-- LOOM_INPUT_EDGE (R96): the new level of loom input `n + 1`. -/
  | loomInputEdge (n : Fin 7) (level : Bool)
  /-- START_DELIMITER (R155), after the symbols received since the last delimiter or time-out. -/
  | startDelimiter (symbols : List LineSymbol)
  /-- FRAME_END (R156), after the symbols received since the last delimiter or time-out. -/
  | frameEnd (symbols : List LineSymbol)
  /-- RECEPTION_TIMEOUT (R157), after the symbols received since the last delimiter. -/
  | receptionTimeout (symbols : List LineSymbol)
  /-- TRANSMIT_START (R158). -/
  | transmitStart
  /-- TRANSMIT_END (R158). -/
  | transmitEnd
  /-- DESIGN_FRAME (R171): a good DESIGN frame with this body. -/
  | designFrame (h : Header) (body : List Byte)
  /-- ENUMERATE (R161): a good ENUMERATE frame with this body. -/
  | enumerate (h : Header) (body : List Byte)
  /-- CONFIGURE_DESIGN_WIDTH (R14). -/
  | configureDesignWidth (h : Header) (index : Byte) (value : Half) (pad : List Byte)
  /-- CONFIGURE_SELECT_ANGLE (R72). -/
  | configureSelectAngle (h : Header) (index : Byte) (value : Half) (pad : List Byte)
  /-- CONFIGURE_SELECT_LATENCY (R69). -/
  | configureSelectLatency (h : Header) (index : Byte) (value : Half) (pad : List Byte)
  /-- CONFIGURE_REVERSE_MARGIN (R72). -/
  | configureReverseMargin (h : Header) (index : Byte) (value : Half) (pad : List Byte)
  /-- CONFIGURE_FEEDER_DISTANCE (R83). -/
  | configureFeederDistance (h : Header) (index : Byte) (value : Half) (pad : List Byte)
  /-- CONFIGURE_ARRIVAL_OPEN_DISTANCE (R83). -/
  | configureArrivalOpenDistance (h : Header) (index : Byte) (value : Half) (pad : List Byte)
  /-- CONFIGURE_ARRIVAL_CLOSE_DISTANCE (R83). -/
  | configureArrivalCloseDistance (h : Header) (index : Byte) (value : Half) (pad : List Byte)
  /-- CONFIGURE_WEFT_OWNER (R88). -/
  | configureWeftOwner (h : Header) (index : Byte) (value : Half) (pad : List Byte)
  /-- CONFIGURE_ARRIVAL_EDGE (R90). -/
  | configureArrivalEdge (h : Header) (index : Byte) (value : Half) (pad : List Byte)
  /-- CONFIGURE_INPUT_ENABLE (R97): `index` is the input number. -/
  | configureInputEnable (h : Header) (index : Byte) (value : Half) (pad : List Byte)
  /-- CONFIGURE_INPUT_EDGE (R95): `index` is the input number. -/
  | configureInputEdge (h : Header) (index : Byte) (value : Half) (pad : List Byte)
  /-- CONFIGURE_ACTION_LEVEL (R144): `index` is the event kind. -/
  | configureActionLevel (h : Header) (index : Byte) (value : Half) (pad : List Byte)
  /-- CONFIGURE_REST_TIME (R127). -/
  | configureRestTime (h : Header) (index : Byte) (value : Half) (pad : List Byte)
  /-- LOAD_OPEN (R184). -/
  | loadOpen (h : Header) (table first count : Byte) (pad : List Byte)
  /-- LOAD_DATA (R185): the entry count, and all the bytes of the body after it. -/
  | loadData (h : Header) (sequence count : Byte) (entries : List Byte)
  /-- LOAD_CLOSE (R186). -/
  | loadClose (h : Header) (pad : List Byte)
  /-- LOAD_ABORT (R187). -/
  | loadAbort (h : Header) (pad : List Byte)
  /-- RUN (R136). -/
  | run (h : Header) (pad : List Byte)
  /-- RESUME (R138). -/
  | resume (h : Header) (pad : List Byte)
  /-- IDLE (R139). -/
  | idle (h : Header) (pad : List Byte)
  /-- DISCARD_QUEUE (R190): the new expected pick number. -/
  | discardQueue (h : Header) (expected : Half) (pad : List Byte)
  /-- CLEAR_HISTORY (R53). -/
  | clearHistory (h : Header) (pad : List Byte)
  /-- CLEAR_EVENTS (R149): the kinds named, one byte each. -/
  | clearEvents (h : Header) (kinds : List Byte) (pad : List Byte)
  /-- CLEAR_FAULT_MAP (R122). -/
  | clearFaultMap (h : Header) (pad : List Byte)
  /-- RELEASE_MODULE (R130). -/
  | releaseModule (h : Header) (chain module : Byte) (pad : List Byte)
  /-- QUERY_STATUS (R189). -/
  | queryStatus (h : Header) (space : Half) (pad : List Byte)
  /-- QUERY_EVENTS (R152). -/
  | queryEvents (h : Header) (space : Half) (pad : List Byte)
  /-- QUERY_FAULT_MAP (R134). -/
  | queryFaultMap (h : Header) (space : Half) (pad : List Byte)
  /-- QUERY_MODULES (R117). -/
  | queryModules (h : Header) (space : Half) (pad : List Byte)
  /-- QUERY_TABLE (R18). -/
  | queryTable (h : Header) (space : Half) (table first count : Byte) (pad : List Byte)
  /-- QUERY_PICKS (R58). -/
  | queryPicks (h : Header) (space : Half) (pad : List Byte)
  /-- RESET (R191). -/
  | reset (h : Header) (pad : List Byte)
  /-- SIZING_FLUSH_END (R101). -/
  | sizingFlushEnd
  /-- MARKER_PASS_END (R102): the marker came back after `p + 1` clock periods (1-4,096), or not at all. -/
  | markerPassEnd (chain : Fin 6) (p : Option (Fin 4096))
  /-- EXPANSION_RECORD_DONE (R33). -/
  | expansionRecordDone
  /-- SHIFT_END (R111): for each chain SC0-SC5 the status words its return line brought, module 0 first. -/
  | shiftEnd (status : List (List StatusWord))
  /-- REST_TIMER_EXPIRY (R127). -/
  | restTimerExpiry (chain : Fin 6) (module : Nat)
  deriving DecidableEq, Repr

end Sys2Proof
end

