-- ==== Sys2Proof/Decode.lean ====
section
/-! DEFINITION. Commands spelled by the bits of spec/opcode_table.json. -/

namespace Sys2Proof

/-- The command that the low `nbits` bits of `w` spell by the table's bits. No row of the table gives bits, so no word
spells a command (log entry 14). -/
def decodeTableWord (_nbits _w : Nat) : Option Instr := none

end Sys2Proof
end

