-- ==== Sys2Proof/Machine/Crc.lean ====
section
/-! DEFINITION. The CRC of a frame (R159): generator x^16 + x^12 + x^5 + 1, register from all ones, each byte most
significant bit first, sent without inversion. -/

namespace Sys2Proof.Machine

/-- One bit into the register. -/
def crcBit (r : Half) (bit : Bool) : Half := if r.msb = bit then r <<< 1 else (r <<< 1) ^^^ 0x1021#16

/-- One byte into the register, most significant bit first. -/
def crcByte (r : Half) (b : Byte) : Half :=
  crcBit (crcBit (crcBit (crcBit (crcBit (crcBit (crcBit (crcBit r (b.getLsbD 7)) (b.getLsbD 6)) (b.getLsbD 5))
    (b.getLsbD 4)) (b.getLsbD 3)) (b.getLsbD 2)) (b.getLsbD 1)) (b.getLsbD 0)

/-- The CRC of a list of bytes (R159). -/
def crc16 (bytes : List Byte) : Half := bytes.foldl crcByte 0xFFFF#16

end Sys2Proof.Machine
end

