-- ==== Sys2Proof/Config.lean ====
section
/-! DEFINITION. The fixed sizes of the MF-4816 ("Principal figures" of 00_scope.md and the rules named), and the one
free value of the model. -/

namespace Sys2Proof.Config

/-- Records of the Pick Queue (R37). -/
abbrev queueSize : Nat := 8

/-- Entries of the Woven History (R41). -/
abbrev historySize : Nat := 16

/-- Rows of the expansion backlog (R23). -/
abbrev backlogSize : Nat := 2

/-- Entries of the Hook Fault Map (R118). -/
abbrev faultMapSize : Nat := 64

/-- Bytes a frame store holds (R156). -/
abbrev storeBytes : Nat := 2048

/-- The µs timer wraps to 0 at this value (R66). -/
abbrev timerWrap : Nat := 16777216

/-- The reception timer, in µs (R155). -/
abbrev receptionTime : Nat := 20000

/-- The net step count at which the index is lost (R64). -/
abbrev indexLostAt : Nat := 1100

/-- FREE VALUE (log entry 7). Whether the Expansion Engine had already computed the lift of `hook` in the record under
work when the Hook Fault Map changed for that hook. R32 lets either be the case and R24 says the order of the hooks is not
observable, so nothing fixes the answer; `draw` is the number of answers taken before. -/
opaque engineAhead (draw hook : Nat) : Bool

end Sys2Proof.Config
end

