-- ==== Sys2Proof/Machine/Levels.lean ====
section
/-! DEFINITION. The 26 event kinds, their numbers, and the default and fixed action levels (R142, R143). -/

namespace Sys2Proof.Machine

/-- An action level (R143). -/
inductive Level where
  /-- 0 RECORD: the event is only recorded. -/
  | record
  /-- 1 NOTIFY: the flag also sets the attention bit. -/
  | notify
  /-- 2 STOP: as NOTIFY, and a raise in RUN moves the node to HALT. -/
  | stop
  deriving DecidableEq, Repr

/-- The event kinds (R142). -/
inductive EventKind where
  | starved
  | rewindLimit
  | weftMissing
  /-- INPUT1-INPUT7: `input n` is INPUT(n+1). -/
  | input (n : Fin 7)
  | slip
  | indexLost
  | selectLate
  | selectOverrun
  | hookFault
  | faultMapFull
  | moduleRest
  | moduleLatched
  | moduleLost
  | chainFailed
  | chainSize
  | columnRange
  | pickRefused
  | linkTimeout
  | frameAbandoned
  | ringOverflow
  deriving DecidableEq, Repr

/-- The number of an event kind, in the table of R142. -/
def kindNumber : EventKind → Fin 26
  | .starved => 0
  | .rewindLimit => 1
  | .weftMissing => 2
  | .input n => ⟨n.val + 3, by omega⟩
  | .slip => 10
  | .indexLost => 11
  | .selectLate => 12
  | .selectOverrun => 13
  | .hookFault => 14
  | .faultMapFull => 15
  | .moduleRest => 16
  | .moduleLatched => 17
  | .moduleLost => 18
  | .chainFailed => 19
  | .chainSize => 20
  | .columnRange => 21
  | .pickRefused => 22
  | .linkTimeout => 23
  | .frameAbandoned => 24
  | .ringOverflow => 25

/-- The default level of each kind, by number (R142). -/
def defaultLevel (k : Fin 26) : Level :=
  match k.val with
  | 0 | 2 | 11 | 13 | 16 | 17 | 18 | 19 => .stop
  | 1 | 10 | 14 | 15 | 20 | 22 | 23 | 25 => .notify
  | _ => .record

/-- The kinds whose level CONFIGURE cannot change: STARVED, INDEX_LOST, MODULE_LOST, CHAIN_FAILED (R142, R144). -/
def levelFixed (k : Fin 26) : Bool :=
  k = 0 || k = 11 || k = 18 || k = 19

/-- The code of a level (R143, R168). -/
def levelCode : Level → Nat
  | .record => 0
  | .notify => 1
  | .stop => 2

end Sys2Proof.Machine
end

