-- ==== Sys2Proof/Machine/State.lean ====
section
/-! DEFINITION. The state of one MF-4816 node, block by block (00_scope.md, block diagram), the state after power-on, and
one setter for each block. -/

namespace Sys2Proof.Machine

/-- A command never ends in a fault: the part has no stop of its own. Each refusal is an outcome code and each alarm an
event, both effects on the state (INVENTORY.md, Faults). The type has no constructor, so that no step can fault (safe). -/
inductive Fault where
  deriving DecidableEq, Repr

/-- Why a command has no meaning. -/
inductive Refusal where
  /-- The command has no meaning yet. Raised by no arm of `exec`: every row of the table has its meaning. Safe. -/
  | notModelled (mnemonic : String)
  deriving DecidableEq, Repr

/-! ## Ring Port -/

/-- A frame as the node reads and writes it (R168); its CRC is computed from it (R159). -/
structure Frame where
  kind : Byte
  dest : Byte
  tag : Half
  slots : Vector Half 4
  body : List Byte
  deriving DecidableEq, Repr

/-- The two frame stores. -/
inductive StoreId where
  | A
  | B
  deriving DecidableEq, Repr

/-- A frame store (R155, R156, R158). -/
inductive FrameStore where
  | free
  /-- A frame is being received: the bytes so far, the over-length mark and the line-code error mark. -/
  | filling (bytes : List Byte) (overLength lineError : Bool)
  | held (bytes : List Byte)
  | sending (bytes : List Byte)
  deriving DecidableEq, Repr

/-- The receiver (R154). -/
inductive Receiver where
  | waiting
  /-- RECEIVING, into the FILLING store named. -/
  | receiving (into : StoreId)
  | discarding
  deriving DecidableEq, Repr

/-- The Ring Port (R154-R161). -/
structure RingPort where
  /-- The node number, or unnumbered. -/
  number : Option (Fin 4)
  receiver : Receiver
  storeA : FrameStore
  storeB : FrameStore
  /-- The HELD stores in the order their receptions ended (R158). -/
  heldOrder : List StoreId
  /-- The reception timer: µs left, or stopped. -/
  rxTimer : Option Nat
  /-- The model's own: the frame as the latest action on a good frame left it (log entry 1). -/
  acted : Option Frame
  deriving DecidableEq, Repr

/-! ## Pick Admission and the Command Unit -/

/-- Pick Admission (R170). -/
structure Admission where
  expected : Nat
  lastAccepted : Option Nat
  deriving DecidableEq, Repr

/-- The four tables a load can name (R184). -/
inductive TableId where
  | weave
  | codemap
  | tie
  | weft
  deriving DecidableEq, Repr

/-- An OPEN load transaction (R184). -/
structure Load where
  table : TableId
  first : Nat
  count : Nat
  remaining : Nat
  sequence : Nat
  deriving DecidableEq, Repr

/-! ## Pattern Tables -/

/-- What a weave slot holds (R1): W, H, start row and the cells in row order, as received. -/
structure Geometry where
  w : Nat
  h : Nat
  start : Nat
  cells : List Bool
  deriving DecidableEq, Repr

/-- A slot of the Weave Bank (R1). -/
inductive WeaveSlot where
  | empty
  | loaded (g : Geometry)
  /-- INVALID, with what the open or failed load has written. -/
  | invalid (written : Option Geometry)
  deriving DecidableEq, Repr

/-- The fields of a Code Map entry (R5). -/
structure CodeFields where
  slot : Nat
  invert : Nat
  dx : Nat
  dy : Nat
  deriving DecidableEq, Repr

/-- A Code Map entry (R5). -/
inductive CodeEntry where
  /-- UNMAPPED, with the fields an open or failed load has written. -/
  | unmapped (written : Option CodeFields)
  | mapped (f : CodeFields)
  deriving DecidableEq, Repr

/-- The direction of a tie segment (R8); a byte that names none is held as received (R168). -/
inductive TieDirection where
  | asc
  | desc
  | unknown (code : Byte)
  deriving DecidableEq, Repr

/-- The kind of a tie segment (R8); a byte that names none is held as received (R168). -/
inductive TieKind where
  | figure
  | selvedge
  | void
  | unknown (code : Byte)
  deriving DecidableEq, Repr

/-- A tie segment (R8). -/
structure Segment where
  h0 : Nat
  n : Nat
  direction : TieDirection
  c0 : Nat
  e0 : Nat
  kind : TieKind
  /-- Selvedge slot and selvedge invert; absent unless the kind is SELVEDGE (R10). -/
  selvedge : Option (Nat × Nat)
  deriving DecidableEq, Repr

/-- A Weft Table entry (R12). -/
inductive WeftEntry where
  /-- UNMAPPED, with the number an open or failed load has written. -/
  | unmapped (written : Option Nat)
  | mapped (feeder : Nat)
  deriving DecidableEq, Repr

/-- The Pattern Tables. -/
structure Tables where
  weaves : Vector WeaveSlot 16
  codes : Vector CodeEntry 16
  tieValid : Bool
  tie : List Segment
  wefts : Vector WeftEntry 8
  /-- The design width D (R14). -/
  width : Nat
  deriving DecidableEq, Repr

/-! ## Expansion Engine and Pick Store -/

/-- One run of a design row: a figure code and its number of columns. -/
structure Run where
  code : Nat
  length : Nat
  deriving DecidableEq, Repr

/-- A row of the expansion backlog (R23). -/
structure BacklogRow where
  pick : Nat
  count : Nat
  /-- The bound width. -/
  width : Nat
  runs : List Run
  /-- How many of its records are completed. -/
  done : Nat
  deriving DecidableEq, Repr

/-- The Expansion Engine. -/
structure Engine where
  rowCounters : Vector Nat 16
  backlog : List BacklogRow
  /-- The model's own (log entry 7): the hooks of the record under work whose fault forcing is decided, and how. -/
  settled : List (Nat × Bool)
  deriving DecidableEq, Repr

/-- A pick number and a sub-index: what a record is of, and where a latch or a fault comes from. -/
structure PickId where
  pick : Nat
  sub : Nat
  deriving DecidableEq, Repr

/-- The state of a lift record (R19). -/
inductive RecordState where
  | expanding
  | ready
  deriving DecidableEq, Repr

/-- A lift record (R19). -/
structure LiftRecord where
  id : PickId
  feeder : Nat
  state : RecordState
  /-- A row index for each weave slot LOADED at acceptance. -/
  snapshot : Vector (Option Nat) 16
  /-- The column-range mark. -/
  mark : Bool
  /-- The lifts of hooks 0..N-1, once READY. -/
  lifts : List Bool
  deriving DecidableEq, Repr

/-- The origin of a history entry (R40). -/
inductive Origin where
  | queue
  | repeated
  deriving DecidableEq, Repr

/-- A history entry (R40). -/
structure HistoryEntry where
  /-- Absent only in an entry copied from BLANK. -/
  id : Option PickId
  feeder : Nat
  lifts : List Bool
  origin : Origin
  deriving DecidableEq, Repr

/-- The Pick Store. -/
structure PickStore where
  queue : List LiftRecord
  history : List HistoryEntry
  rewind : Nat
  overshoot : Nat
  /-- The woven-pick count (R50). -/
  woven : Nat
  deriving DecidableEq, Repr

/-! ## Shaft Tracker -/

/-- The direction of the shaft (R59). -/
inductive Direction where
  | forward
  | reverse
  deriving DecidableEq, Repr

/-- The levels of the encoder lines (R59, R61). -/
structure Lines where
  a : Bool
  b : Bool
  z : Bool
  deriving DecidableEq, Repr

/-- Which pick events are armed (R85). -/
structure Armed where
  feeder : Bool
  arrivalOpen : Bool
  arrivalClose : Bool
  deriving DecidableEq, Repr

/-- The Shaft Tracker. -/
structure Tracker where
  lines : Lines
  counter : Nat
  direction : Direction
  angleValid : Bool
  /-- The net step count (R64). -/
  net : Int
  /-- The direction of the last index pass (R67). -/
  lastPass : Option Direction
  /-- Whether a reverse step was seen since it (R67). -/
  reverseSeen : Bool
  /-- The µs timer (R66). -/
  timer : Nat
  capture : Option Nat
  /-- The applied period, or INVALID (R68). -/
  period : Option Nat
  /-- The target advance (R69). -/
  target : Nat
  /-- The applied advance (R70). -/
  applied : Nat
  /-- LAST: the kind of the latest crossing (R73). -/
  last : Direction
  antipodeFlag : Bool
  armed : Armed
  selectAngle : Nat
  /-- The select latency L. -/
  latency : Nat
  /-- The reverse margin. -/
  margin : Nat
  feederDist : Nat
  openDist : Nat
  closeDist : Nat
  deriving DecidableEq, Repr

/-! ## Weft and Input Unit -/

/-- An edge selection (R90, R95). -/
inductive EdgeSelect where
  | rise
  | fall
  | both
  deriving DecidableEq, Repr

/-- The Weft and Input Unit. -/
structure WeftUnit where
  /-- The feeder output: 0 or the feeder that is active (R89). -/
  feeder : Nat
  /-- Whether the arrival window is OPEN. -/
  window : Bool
  mark : Bool
  /-- The arrival-outside count (R93). -/
  outside : Nat
  /-- Input flags 1-7. -/
  inputFlags : Vector Bool 7
  /-- The weft-owner flag. -/
  owner : Bool
  arrivalEdge : EdgeSelect
  enables : Vector Bool 7
  edges : Vector EdgeSelect 7
  /-- The levels of LOOM IN 0-7 last seen. -/
  levels : Vector Bool 8
  deriving DecidableEq, Repr

/-! ## Selector Interface and Hook Health -/

/-- A chain size (R100). -/
inductive ChainSize where
  | absent
  | present (modules : Nat)
  deriving DecidableEq, Repr

/-- The sizing state (R101, R102). -/
inductive Sizing where
  /-- SIZING, in the flush pass. -/
  | flush
  /-- SIZING, in the marker passes: what the passes ended so far gave. -/
  | marker (found : Vector (Option ChainSize) 6)
  | done
  deriving DecidableEq, Repr

/-- The kind of a shift (R104). -/
inductive ShiftKind where
  | pattern
  | zero
  deriving DecidableEq, Repr

/-- A shift: in flight, its fixed values (R104); latched, the last latch record (R107), whose values are the magnets. -/
structure Shift where
  kind : ShiftKind
  source : Option PickId
  /-- The value of each hook 0..N-1. -/
  values : List Bool
  deriving DecidableEq, Repr

/-- The Selector Interface. -/
structure Selector where
  chains : Vector ChainSize 6
  sizing : Sizing
  /-- The shift in flight; the shift state is SHIFTING exactly when there is one. -/
  shift : Option Shift
  pending : Option ShiftKind
  /-- The last latch record. -/
  latch : Shift
  deriving DecidableEq, Repr

/-- The kind of a fault (R118). -/
inductive FaultKind where
  | opened
  | shorted
  deriving DecidableEq, Repr

/-- An entry of the Hook Fault Map (R118). -/
structure FaultEntry where
  hook : Nat
  kind : FaultKind
  source : PickId
  deriving DecidableEq, Repr

/-- A module's state (R123). The rest timer belongs to RESTING, so it runs in no other state. -/
inductive ModuleState where
  | active
  /-- RESTING, with the µs left of the rest. -/
  | resting (left : Nat)
  | latched
  | lost
  deriving DecidableEq, Repr

/-- A module record (R123). -/
structure ModuleRecord where
  state : ModuleState
  strikes : Nat
  clean : Nat
  deriving DecidableEq, Repr

/-- Hook Health. -/
structure Health where
  faultMap : List FaultEntry
  overflow : Nat
  /-- For each chain the records of its modules. -/
  modules : Vector (List ModuleRecord) 6
  /-- The rest time, in ms. -/
  restTime : Nat
  deriving DecidableEq, Repr

/-! ## Run Control and Event Unit -/

/-- The node states (R135-R140). -/
inductive NodeState where
  | init
  | idle
  | run
  | halt
  deriving DecidableEq, Repr

/-- The record of an event kind (R143). -/
structure EventRecord where
  flag : Bool
  count : Nat
  level : Level
  deriving DecidableEq, Repr

/-- Run Control and the Event Unit. -/
structure Control where
  node : NodeState
  events : Vector EventRecord 26
  deriving DecidableEq, Repr

/-! ## The whole -/

/-- The state of the node, and the queue of the commands that are waiting. -/
structure State where
  port : RingPort
  admission : Admission
  load : Option Load
  tables : Tables
  engine : Engine
  store : PickStore
  tracker : Tracker
  weft : WeftUnit
  selector : Selector
  health : Health
  control : Control
  /-- The model's own (log entry 7): how many free values have been drawn. -/
  draws : Nat
  /-- The model's own: the commands that are waiting, first in, first out. -/
  pending : List Instr
  deriving DecidableEq, Repr

/-! ### One setter for each block -/

def State.setPort (s : State) (x : RingPort) : State := { s with port := x }
def State.setAdmission (s : State) (x : Admission) : State := { s with admission := x }
def State.setLoad (s : State) (x : Option Load) : State := { s with load := x }
def State.setTables (s : State) (x : Tables) : State := { s with tables := x }
def State.setEngine (s : State) (x : Engine) : State := { s with engine := x }
def State.setStore (s : State) (x : PickStore) : State := { s with store := x }
def State.setTracker (s : State) (x : Tracker) : State := { s with tracker := x }
def State.setWeft (s : State) (x : WeftUnit) : State := { s with weft := x }
def State.setSelector (s : State) (x : Selector) : State := { s with selector := x }
def State.setHealth (s : State) (x : Health) : State := { s with health := x }
def State.setControl (s : State) (x : Control) : State := { s with control := x }
def State.setDraws (s : State) (x : Nat) : State := { s with draws := x }
def State.setPending (s : State) (x : List Instr) : State := { s with pending := x }

/-- The machine right after power-on (R192 and the state tables of the chapters; INVENTORY.md lists each value). -/
def State.reset : State where
  port :=
    { number := none, receiver := .waiting, storeA := .free, storeB := .free, heldOrder := [], rxTimer := none,
      acted := none }
  admission := { expected := 0, lastAccepted := none }
  load := none
  tables :=
    { weaves := Vector.replicate 16 .empty, codes := Vector.replicate 16 (.unmapped none), tieValid := true, tie := [],
      wefts := Vector.replicate 8 (.unmapped none), width := 0 }
  engine := { rowCounters := Vector.replicate 16 0, backlog := [], settled := [] }
  store := { queue := [], history := [], rewind := 0, overshoot := 0, woven := 0 }
  tracker :=
    { lines := { a := false, b := false, z := false }, counter := 0, direction := .forward, angleValid := false, net := 0,
      lastPass := none, reverseSeen := false, timer := 0, capture := none, period := none, target := 0, applied := 0,
      last := .forward, antipodeFlag := true,
      armed := { feeder := false, arrivalOpen := false, arrivalClose := false },
      selectAngle := 0, latency := 0, margin := 16, feederDist := 128, openDist := 320, closeDist := 640 }
  weft :=
    { feeder := 0, window := false, mark := false, outside := 0, inputFlags := Vector.replicate 7 false, owner := false,
      arrivalEdge := .rise, enables := Vector.replicate 7 false, edges := Vector.replicate 7 .rise,
      levels := Vector.replicate 8 false }
  selector :=
    { chains := Vector.replicate 6 .absent, sizing := .flush, shift := none, pending := none,
      latch := { kind := .zero, source := none, values := [] } }
  health := { faultMap := [], overflow := 0, modules := Vector.replicate 6 [], restTime := 100 }
  control :=
    { node := .init,
      events := Vector.ofFn fun k => { flag := false, count := 0, level := defaultLevel k } }
  draws := 0
  pending := []

end Sys2Proof.Machine
end

