-- ==== Sys2Proof/Machine/Flags.lean ====
section
/-! DEFINITION. The event records: raising an event, and the bits that are worked out from the records and the other state
at every moment (R89, R141, R145, R148, R150, R57, R97). -/

namespace Sys2Proof.Machine

/-- A flag that is set, at level NOTIFY or STOP (R148). -/
def callsAttention (e : EventRecord) : Bool := e.flag && (e.level == .notify || e.level == .stop)

/-- A STOP-level flag: set, and its kind's level is STOP (R138, R150). -/
def holdsStop (e : EventRecord) : Bool := e.flag && e.level == .stop

/-- The attention bit (R148). -/
def attention (s : State) : Bool := s.control.events.toList.any callsAttention

/-- The stop hold (R150). -/
def stopHold (s : State) : Bool := s.control.events.toList.any holdsStop

/-- The STOP REQUEST output: deasserted in RUN, asserted in every other node state (R141). -/
def stopRequest (s : State) : Bool := s.control.node != .run

/-- The outputs FEEDER 1-8, output `n + 1` at index `n`: while the feeder output holds n in 1-8 that one is active and the
other seven are not, and while it holds 0 none is (R89, log entry 10). -/
def feederOutputs (s : State) : Vector Bool 8 := Vector.ofFn fun n => decide (s.weft.feeder = n.val + 1)

/-- INPUT_ANY (R97). -/
def inputAny (s : State) : Bool := s.weft.inputFlags.toList.any id

/-- The rewind-active bit (R57). -/
def rewindActive (s : State) : Bool := 0 < s.store.rewind || 0 < s.store.overshoot

/-- The node is in RUN or HALT: the states in which crossings, shifts and the arrival window act (R45, R90). -/
def weaving (s : State) : Bool := s.control.node == .run || s.control.node == .halt

/-- The record of a kind after a raise: the flag set, the count one higher and at most 65,535 (R145 items 1, 2). -/
def raisedRecord (e : EventRecord) : EventRecord := { e with flag := true, count := min (e.count + 1) 65535 }

/-- Raising an event: the Event Unit takes it whole (R145). A STOP-level raise in RUN moves the node to HALT. -/
def raise (k : EventKind) (s : State) : State :=
  let e := s.control.events[kindNumber k]
  let node := if e.level = .stop ∧ s.control.node = .run then NodeState.halt else s.control.node
  s.setControl { node := node, events := s.control.events.set (kindNumber k) (raisedRecord e) }

/-- Moving the node to a state (R136, R138, R139). -/
def setNode (n : NodeState) (s : State) : State := s.setControl { s.control with node := n }

/-- An event record with flag clear and count 0, its level kept (R149). -/
def clearedRecord (e : EventRecord) : EventRecord := { e with flag := false, count := 0 }

/-- Every event record cleared, every level kept (R143 at RESET, R153). -/
def clearAllEvents (v : Vector EventRecord 26) : Vector EventRecord 26 := Vector.ofFn fun k => clearedRecord v[k]

/-- The records of the kinds named cleared, the others kept (R149). -/
def clearNamedEvents (kinds : List Nat) (v : Vector EventRecord 26) : Vector EventRecord 26 :=
  Vector.ofFn fun k => if k.val ∈ kinds then clearedRecord v[k] else v[k]

end Sys2Proof.Machine
end

