-- ==== Sys2Proof/Machine/Operands.lean ====
section
/-! DEFINITION. Reading operands: byte order, clamping, edges of a line, quadrature, and the circle of 1024 counts. -/

namespace Sys2Proof.Machine

/-- The byte of a number below 256; a number in the spec's range is always below it. -/
def byteOf (n : Nat) : Byte := BitVec.ofNat 8 n

/-- A bit as a number. -/
def bitOf (b : Bool) : Nat := if b then 1 else 0

/-- Two bytes, more significant byte first (R168). -/
def be16 (n : Nat) : List Byte := [byteOf (n / 256), byteOf n]

/-- Four bytes, more significant byte first (R168). -/
def be32 (n : Nat) : List Byte :=
  [byteOf (n / 16777216), byteOf (n / 65536), byteOf (n / 256), byteOf n]

/-- The number two bytes give, the first more significant (R168). -/
def num16 (hi lo : Byte) : Nat := hi.toNat * 256 + lo.toNat

/-- The 16-bit value two bytes give, the first more significant (R168). -/
def half (hi lo : Byte) : Half := BitVec.ofNat 16 (num16 hi lo)

/-- A number brought to the nearer limit of `lo..hi` (R183). -/
def clamp (lo hi n : Nat) : Nat := if n < lo then lo else if hi < n then hi else n

/-- Whether a change of level to `level` matches an edge selection (R90, R96). -/
def edgeMatches (e : EdgeSelect) (level : Bool) : Bool :=
  match e with
  | .rise => level
  | .fall => !level
  | .both => true

/-- The edge selection a CONFIGURE value names (R168). -/
def edgeOfValue (v : Nat) : Option EdgeSelect :=
  match v with
  | 0 => some .rise
  | 1 => some .fall
  | 2 => some .both
  | _ => none

/-- The code of an edge selection (R168). -/
def edgeCode : EdgeSelect → Nat
  | .rise => 0
  | .fall => 1
  | .both => 2

/-- The level a CONFIGURE value names (R168). -/
def levelOfValue (v : Nat) : Option Level :=
  match v with
  | 0 => some .record
  | 1 => some .notify
  | 2 => some .stop
  | _ => none

/-- The place of the two lines in the quadrature cycle of R59: both low, A high, both high, B high. -/
def quadraturePhase (a b : Bool) : Fin 4 :=
  match a, b with
  | false, false => 0
  | true, false => 1
  | true, true => 2
  | false, true => 3

/-- What a change of the lines is (R59): a forward step to the next place of the cycle, a reverse step to the one before,
and no step when neither line or both lines changed. -/
def quadratureStep (old : Lines) (a b : Bool) : Option Direction :=
  if quadraturePhase a b = quadraturePhase old.a old.b + 1 then some .forward
  else if quadraturePhase a b + 1 = quadraturePhase old.a old.b then some .reverse
  else none

/-- (a - b) mod 1024 for a shaft angle a and a distance b (00_scope.md, Conventions). -/
def angleSub (a b : Nat) : Nat := (((a : Int) - (b : Int)) % 1024).toNat

/-- (a + b) mod 1024. -/
def angleAdd (a b : Nat) : Nat := (a + b) % 1024

end Sys2Proof.Machine
end

