-- ==== Sys2Proof/Machine/Ops.lean ====
section
/-! DEFINITION. Shared views of the state (hook numbering, the presented pattern, listing, module state) and the small
shared operations several blocks perform. -/

namespace Sys2Proof.Machine

/-! ## Hook numbering (R100, R103) -/

/-- The modules a chain contributes (R100). -/
def moduleCount : ChainSize → Nat
  | .absent => 0
  | .present m => m

/-- The installed hook count N: 16 times the modules of the PRESENT chains (R102). -/
def installed (s : State) : Nat := 16 * (s.selector.chains.toList.map moduleCount).sum

/-- Whether a chain is PRESENT. -/
def isPresent : ChainSize → Bool
  | .absent => false
  | .present _ => true

/-- Whether at least one chain is PRESENT (R106, R136). -/
def anyPresent (s : State) : Bool := s.selector.chains.toList.any isPresent

/-- The first hook of module `k` of chain `c` (R103). -/
def firstHook (s : State) (c : Fin 6) (k : Nat) : Nat :=
  16 * ((s.selector.chains.toList.take c).map moduleCount).sum + 16 * k

/-- The record of the module that carries hook `h`: every 16 hooks are a module, in the order of chains and modules
(R103). -/
def moduleOfHook (s : State) (h : Nat) : Option ModuleRecord := s.health.modules.toList.flatten[h / 16]?

/-- The record of module `k` of chain `c` (R123). -/
def moduleRecord (s : State) (c : Fin 6) (k : Nat) : Option ModuleRecord := s.health.modules[c][k]?

/-- Storing the record of module `k` of chain `c`. -/
def setModule (c : Fin 6) (k : Nat) (r : ModuleRecord) (s : State) : State :=
  s.setHealth { s.health with modules := s.health.modules.set c (s.health.modules[c].set k r) }

/-- Whether hook `h` is listed in a Hook Fault Map (R118). -/
def isListed (m : List FaultEntry) (h : Nat) : Bool := m.any fun e => e.hook == h

/-! ## The Pick Store seen from outside -/

/-- The queue free count (R39). -/
def queueFree (s : State) : Nat := Config.queueSize - s.store.queue.length

/-- The presented history entry, `r` places before the newest, or none for BLANK (R43). -/
def presentedEntry (p : PickStore) : Option HistoryEntry := p.history[p.history.length - 1 - p.rewind]?

/-- The feeder of the presented pattern; BLANK has feeder 0 (R43). -/
def presentedFeeder (p : PickStore) : Nat := ((presentedEntry p).map HistoryEntry.feeder).getD 0

/-- The presented pattern's lift of hook `h`; BLANK lifts nothing (R43). -/
def presentedLift (p : PickStore) (h : Nat) : Bool := ((presentedEntry p).map fun e => e.lifts.getD h false).getD false

/-- The pick number and sub-index of the presented pattern, absent for BLANK and a copy of BLANK (R104). -/
def presentedSource (p : PickStore) : Option PickId := (presentedEntry p).bind HistoryEntry.id

/-! ## Shared operations -/

/-- All three pick events disarmed (R86). -/
def disarmEvents (s : State) : State :=
  s.setTracker { s.tracker with armed := { feeder := false, arrivalOpen := false, arrivalClose := false } }

/-- All three pick events armed (R85). -/
def armEvents (s : State) : State :=
  s.setTracker { s.tracker with armed := { feeder := true, arrivalOpen := true, arrivalClose := true } }

/-- The arrival window closed without a decision and the mark cleared (R92). -/
def closeWindow (s : State) : State := s.setWeft { s.weft with window := false, mark := false }

/-- The feeder output set (R89). -/
def setFeeder (n : Nat) (s : State) : State := s.setWeft { s.weft with feeder := n }

end Sys2Proof.Machine
end

