-- ==== Sys2Proof/Machine/Frames.lean ====
section
/-! DEFINITION. The layout of frames, node slots and COMMAND bodies (R156, R162, R167, R168): reading and writing them. -/

namespace Sys2Proof.Machine

/-! ## Codes -/

def kindDesign : Byte := 0x01#8
def kindCommand : Byte := 0x02#8
def kindResponse : Byte := 0x03#8
def kindEnumerate : Byte := 0x04#8
def kindAbandoned : Byte := 0x05#8

/-- The broadcast destination. -/
def destBroadcast : Byte := 0xFF#8

/-- The outcome codes a node writes (R162). -/
inductive OutcomeCode where
  | accepted
  | repeated
  | clamped
  | busy
  | badState
  | range
  | notFound
  | sequence
  | loading
  | tableInvalid
  | rowLength
  | codeUnmapped
  | weftUnmapped
  | overrun
  | notReady
  deriving DecidableEq, Repr

/-- The code of an outcome. -/
def outcomeNumber : OutcomeCode → Nat
  | .accepted => 0
  | .repeated => 1
  | .clamped => 2
  | .busy => 3
  | .badState => 4
  | .range => 5
  | .notFound => 6
  | .sequence => 7
  | .loading => 8
  | .tableInvalid => 9
  | .rowLength => 10
  | .codeUnmapped => 11
  | .weftUnmapped => 12
  | .overrun => 13
  | .notReady => 14

/-- The code of a node state in a slot (R168). -/
def nodeCode : NodeState → Nat
  | .init => 0
  | .idle => 1
  | .run => 2
  | .halt => 3

/-- A slot that no node has written (R168, note under the node slot). -/
def untouchedSlot : Half := 0xF000#16

/-- The node slot a node writes: outcome, node state, attention, rewind active, queue free count, truncated (R162,
R168), each as it stands in `s`. -/
def slotWord (o : OutcomeCode) (truncated : Bool) (s : State) : Half :=
  BitVec.ofNat 16
    (outcomeNumber o * 4096 + nodeCode s.control.node * 1024 + bitOf (attention s) * 512 + bitOf (rewindActive s) * 256
      + queueFree s * 16 + bitOf truncated * 8)

/-- A frame with slot `n` stamped afresh (R162). -/
def stampSlot (n : Fin 4) (o : OutcomeCode) (truncated : Bool) (s : State) (f : Frame) : Frame :=
  { f with slots := f.slots.set n (slotWord o truncated s) }

/-! ## Writing a frame -/

/-- The two bytes of a 16-bit value, more significant first. -/
def halfBytes (x : Half) : List Byte := [x.extractLsb' 8 8, x.extractLsb' 0 8]

/-- The header of a frame, offsets 0 to 13 (R168). -/
def headerBytes (f : Frame) : List Byte :=
  [f.kind, f.dest] ++ halfBytes f.tag ++ halfBytes (BitVec.ofNat 16 f.body.length) ++ halfBytes f.slots[0]
    ++ halfBytes f.slots[1] ++ halfBytes f.slots[2] ++ halfBytes f.slots[3]

/-- The bytes of a frame, with its CRC (R159, R168). -/
def frameBytes (f : Frame) : List Byte :=
  headerBytes f ++ f.body ++ halfBytes (crc16 (headerBytes f ++ f.body))

/-! ## Reading a frame -/

/-- Why a frame is abandoned (R156). -/
inductive AbandonReason where
  | crc
  | length
  | line
  deriving DecidableEq, Repr

/-- The code of an abandon reason (R168). -/
def reasonCode : AbandonReason → Byte
  | .crc => 0x01#8
  | .length => 0x02#8
  | .line => 0x03#8

/-- The verdict of the checks of R156. -/
inductive FrameCheck where
  | good (f : Frame)
  | bad (r : AbandonReason)
  deriving DecidableEq, Repr

/-- The 16-bit value of the first two bytes of a list. -/
def firstHalf (bytes : List Byte) : Half := half (bytes.getD 0 0) (bytes.getD 1 0)

/-- The checks on length and CRC (R156 items 2 and 3), over the bytes received. -/
def checkBytes (bytes : List Byte) : FrameCheck :=
  match bytes with
  | k :: d :: t1 :: t0 :: l1 :: l0 :: a1 :: a0 :: b1 :: b0 :: c1 :: c0 :: d1 :: d0 :: rest =>
    if rest.length = num16 l1 l0 + 2 then
      if crc16 (bytes.take (14 + num16 l1 l0)) = firstHalf (rest.drop (num16 l1 l0)) then
        .good
          { kind := k, dest := d, tag := half t1 t0,
            slots := #v[half a1 a0, half b1 b0, half c1 c0, half d1 d0],
            body := rest.take (num16 l1 l0) }
      else .bad .crc
    else .bad .length
  | _ => .bad .length

/-- The checks of a received frame in the order of R156. -/
def checkFrame (bytes : List Byte) (tooLong lineError : Bool) : FrameCheck :=
  if lineError then .bad .line
  else if tooLong then .bad .length
  else checkBytes bytes

/-- The ABANDONED frame that replaces a bad one (R167). -/
def abandonedFrame (number : Option (Fin 4)) (r : AbandonReason) (bytes : List Byte) : Frame :=
  { kind := kindAbandoned, dest := destBroadcast, tag := half (bytes.getD 2 0) (bytes.getD 3 0),
    slots := Vector.replicate 4 untouchedSlot,
    body :=
      [bytes.getD 0 0,
        match number with
        | some n => byteOf n.val
        | none => 0xFF#8,
        reasonCode r] }

/-! ## COMMAND bodies -/

/-- The parameters of CONFIGURE (R168). -/
inductive Parameter where
  | designWidth
  | selectAngle
  | selectLatency
  | reverseMargin
  | feederDistance
  | arrivalOpenDistance
  | arrivalCloseDistance
  | weftOwner
  | arrivalEdge
  | inputEnable
  | inputEdge
  | actionLevel
  | restTime
  deriving DecidableEq, Repr

/-- The code of a parameter (R168). -/
def parameterCode : Parameter → Byte
  | .designWidth => 0x01#8
  | .selectAngle => 0x02#8
  | .selectLatency => 0x03#8
  | .reverseMargin => 0x04#8
  | .feederDistance => 0x05#8
  | .arrivalOpenDistance => 0x06#8
  | .arrivalCloseDistance => 0x07#8
  | .weftOwner => 0x08#8
  | .arrivalEdge => 0x09#8
  | .inputEnable => 0x0A#8
  | .inputEdge => 0x0B#8
  | .actionLevel => 0x0C#8
  | .restTime => 0x0D#8

/-- The parameter a code names, if any (R168). -/
def parameterOfCode (b : Byte) : Option Parameter :=
  match b.toNat with
  | 0x01 => some .designWidth
  | 0x02 => some .selectAngle
  | 0x03 => some .selectLatency
  | 0x04 => some .reverseMargin
  | 0x05 => some .feederDistance
  | 0x06 => some .arrivalOpenDistance
  | 0x07 => some .arrivalCloseDistance
  | 0x08 => some .weftOwner
  | 0x09 => some .arrivalEdge
  | 0x0A => some .inputEnable
  | 0x0B => some .inputEdge
  | 0x0C => some .actionLevel
  | 0x0D => some .restTime
  | _ => none

/-- The subjects of QUERY that take no range (R168). -/
inductive Subject where
  | status
  | events
  | faultMap
  | modules
  | picks
  deriving DecidableEq, Repr

/-- The code of a subject (R168); 05h is TABLE. -/
def subjectCode : Subject → Byte
  | .status => 0x01#8
  | .events => 0x02#8
  | .faultMap => 0x03#8
  | .modules => 0x04#8
  | .picks => 0x06#8

/-- A command with its arguments, as a COMMAND body names it (R168, R182). -/
inductive Command where
  | configure (p : Parameter) (index : Byte) (value : Half)
  /-- A CONFIGURE whose parameter code is unknown (R183). -/
  | configureUnknown (code index : Byte)
  | loadOpen (table first count : Byte)
  | loadData (sequence count : Byte) (entries : List Byte)
  | loadClose
  | loadAbort
  | run
  | resume
  | idle
  | discardQueue (expected : Half)
  | clearHistory
  | clearEvents (kinds : List Byte)
  | clearFaultMap
  | releaseModule (chain module : Byte)
  | query (subject : Subject) (space : Half)
  | queryTable (space : Half) (table first count : Byte)
  /-- A QUERY whose subject code is unknown (R188). -/
  | queryUnknown (code : Byte) (space : Half)
  | reset
  deriving DecidableEq, Repr

/-- The body of a command without the padding (R168). -/
def commandBytes : Command → List Byte
  | .configure p index value => [0x01#8, parameterCode p, index] ++ halfBytes value
  | .configureUnknown code index => [0x01#8, code, index, 0, 0]
  | .loadOpen table first count => [0x02#8, table, first, count]
  | .loadData sequence count entries => [0x03#8, sequence, count] ++ entries
  | .loadClose => [0x04#8]
  | .loadAbort => [0x05#8]
  | .run => [0x06#8]
  | .resume => [0x07#8]
  | .idle => [0x08#8]
  | .discardQueue expected => [0x09#8] ++ halfBytes expected
  | .clearHistory => [0x0A#8]
  | .clearEvents kinds => [0x0B#8, byteOf kinds.length] ++ kinds
  | .clearFaultMap => [0x0C#8]
  | .releaseModule chain module => [0x0D#8, chain, module]
  | .query subject space => [0x0E#8, subjectCode subject] ++ halfBytes space
  | .queryTable space table first count => [0x0E#8, 0x05#8] ++ halfBytes space ++ [table, first, count]
  | .queryUnknown code space => [0x0E#8, code] ++ halfBytes space
  | .reset => [0x0F#8]

/-- The arguments of CONFIGURE (R168). -/
def decodeConfigure : List Byte → Option Command
  | p :: index :: v1 :: v0 :: _ =>
    match parameterOfCode p with
    | some par => some (.configure par index (half v1 v0))
    | none => some (.configureUnknown p index)
  | _ => none

/-- The arguments of QUERY (R168). -/
def decodeQuery : List Byte → Option Command
  | subject :: s1 :: s0 :: rest =>
    match subject.toNat with
    | 0x01 => some (.query .status (half s1 s0))
    | 0x02 => some (.query .events (half s1 s0))
    | 0x03 => some (.query .faultMap (half s1 s0))
    | 0x04 => some (.query .modules (half s1 s0))
    | 0x05 =>
      match rest with
      | table :: first :: count :: _ => some (.queryTable (half s1 s0) table first count)
      | _ => none
    | 0x06 => some (.query .picks (half s1 s0))
    | _ => some (.queryUnknown subject (half s1 s0))
  | _ => none

/-- The arguments of CLEAR EVENTS (R168). -/
def decodeClearEvents : List Byte → Option Command
  | size :: rest => if size.toNat ≤ rest.length then some (.clearEvents (rest.take size.toNat)) else none
  | [] => none

/-- The command a COMMAND body names; none when it names no known command or is shorter than the command's arguments
(R182 check 1). Bytes beyond the arguments are ignored. -/
def decodeCommand : List Byte → Option Command
  | [] => none
  | code :: args =>
    match code.toNat with
    | 0x01 => decodeConfigure args
    | 0x02 =>
      match args with
      | table :: first :: count :: _ => some (.loadOpen table first count)
      | _ => none
    | 0x03 =>
      match args with
      | sequence :: count :: entries => some (.loadData sequence count entries)
      | _ => none
    | 0x04 => some .loadClose
    | 0x05 => some .loadAbort
    | 0x06 => some .run
    | 0x07 => some .resume
    | 0x08 => some .idle
    | 0x09 =>
      match args with
      | e1 :: e0 :: _ => some (.discardQueue (half e1 e0))
      | _ => none
    | 0x0A => some .clearHistory
    | 0x0B => decodeClearEvents args
    | 0x0C => some .clearFaultMap
    | 0x0D =>
      match args with
      | chain :: module :: _ => some (.releaseModule chain module)
      | _ => none
    | 0x0E => decodeQuery args
    | 0x0F => some .reset
    | _ => none

/-- A query (R182 checks 2 and 3). -/
def isQuery : Command → Bool
  | .query _ _ => true
  | .queryTable _ _ _ _ => true
  | .queryUnknown _ _ => true
  | _ => false

/-- One of the four LOAD commands (R182 check 2). -/
def isLoad : Command → Bool
  | .loadOpen _ _ _ => true
  | .loadData _ _ _ => true
  | .loadClose => true
  | .loadAbort => true
  | _ => false

/-- The reply space: the body length, and for a query the named space if that is smaller (R164). -/
def replySpace (c : Option Command) (bodyLength : Nat) : Nat :=
  match c with
  | some (.query _ space) => min space.toNat bodyLength
  | some (.queryTable space _ _ _) => min space.toNat bodyLength
  | some (.queryUnknown _ space) => min space.toNat bodyLength
  | _ => bodyLength

/-- The COMMAND frame that carries a command with this header and padding. -/
def commandFrame (h : Header) (c : Command) (pad : List Byte) : Frame :=
  { kind := kindCommand, dest := h.dest, tag := h.tag, slots := h.slots, body := commandBytes c ++ pad }

end Sys2Proof.Machine
end

