-- ==== Sys2Proof/Machine/Tables.lean ====
section
/-! DEFINITION. The Pattern Tables: readiness, and what a load writes and checks (R1-R18, R184-R187). -/

namespace Sys2Proof.Machine

/-! ## States and readiness (R15) -/

/-- The geometry of a slot that is LOADED. -/
def loadedGeometry : WeaveSlot → Option Geometry
  | .empty => none
  | .loaded g => some g
  | .invalid _ => none

/-- The geometry of weave slot `w`, if it is LOADED. -/
def weaveAt (t : Tables) (w : Nat) : Option Geometry := if h : w < 16 then loadedGeometry t.weaves[w] else none

/-- Weave slot `w` is LOADED. -/
def weaveLoaded (t : Tables) (w : Nat) : Bool := (weaveAt t w).isSome

/-- The slot a SELVEDGE segment names is LOADED; other segments need no slot (R15). -/
def segmentReady (t : Tables) (g : Segment) : Bool :=
  match g.kind, g.selvedge with
  | .selvedge, some (slot, _) => weaveLoaded t slot
  | .selvedge, none => false
  | _, _ => true

/-- The tie is ready (R15). -/
def tieReady (t : Tables) : Bool := t.tieValid && t.tie.all (segmentReady t)

/-- The fields of a MAPPED Code Map entry. -/
def mappedFields : CodeEntry → Option CodeFields
  | .unmapped _ => none
  | .mapped f => some f

/-- The Code Map entry of a figure code, if it is MAPPED. -/
def codeAt (t : Tables) (code : Nat) : Option CodeFields := if h : code < 16 then mappedFields t.codes[code] else none

/-- A figure code is ready (R15). -/
def codeReady (t : Tables) (code : Nat) : Bool :=
  match codeAt t code with
  | some f => weaveLoaded t f.slot
  | none => false

/-- The feeder of a MAPPED Weft Table entry. -/
def mappedFeeder : WeftEntry → Option Nat
  | .unmapped _ => none
  | .mapped f => some f

/-- The feeder of a weft colour, if the colour is ready (R15); a colour above 7 is not (R168). -/
def feederAt (t : Tables) (colour : Nat) : Option Nat := if h : colour < 8 then mappedFeeder t.wefts[colour] else none

/-! ## Row counters -/

/-- Every row counter at its slot's start row if the slot is LOADED, else 0 (R2). -/
def startRows (weaves : Vector WeaveSlot 16) : Vector Nat 16 :=
  Vector.ofFn fun i => ((loadedGeometry weaves[i]).map Geometry.start).getD 0

/-! ## Ranges of entries -/

/-- The entries `first .. first + count - 1` of a table all set to `x`. -/
def fillRange {α : Type} {n : Nat} (first count : Nat) (x : α) (v : Vector α n) : Vector α n :=
  Vector.ofFn fun i => if first ≤ i.val ∧ i.val < first + count then x else v[i]

/-- The entries from `start` on set to the values of a list. -/
def writeFrom {α : Type} {n : Nat} (start : Nat) (xs : List α) (v : Vector α n) : Vector α n :=
  Vector.ofFn fun i => if start ≤ i.val then xs.getD (i.val - start) v[i] else v[i]

/-- The table a code names (R168). -/
def tableOfCode (b : Byte) : Option TableId :=
  match b.toNat with
  | 0x01 => some .weave
  | 0x02 => some .codemap
  | 0x03 => some .tie
  | 0x04 => some .weft
  | _ => none

/-- The code of a table (R168). -/
def tableCode : TableId → Nat
  | .weave => 1
  | .codemap => 2
  | .tie => 3
  | .weft => 4

/-- The first index and count lie within the table for a LOAD OPEN (R184 check 2). -/
def loadRangeOk (t : TableId) (first count : Nat) : Bool :=
  match t with
  | .weave => first ≤ 15 && 1 ≤ count && first + count ≤ 16
  | .codemap => first ≤ 15 && 1 ≤ count && first + count ≤ 16
  | .tie => first == 0 && count ≤ 64
  | .weft => first ≤ 7 && 1 ≤ count && first + count ≤ 8

/-! ## LOAD OPEN -/

/-- The target made unusable when a load opens (R3, R6, R10, R13). -/
def openTarget (t : TableId) (first count : Nat) (s : State) : State :=
  match t with
  | .weave =>
    (s.setTables { s.tables with weaves := fillRange first count (.invalid none) s.tables.weaves }).setEngine
      { s.engine with rowCounters := fillRange first count 0 s.engine.rowCounters }
  | .codemap => s.setTables { s.tables with codes := fillRange first count (.unmapped none) s.tables.codes }
  | .tie => s.setTables { s.tables with tieValid := false, tie := [] }
  | .weft => s.setTables { s.tables with wefts := fillRange first count (.unmapped none) s.tables.wefts }

/-! ## LOAD DATA -/

/-- The entries of a LOAD DATA, by table. -/
inductive LoadEntries where
  | weaves (xs : List Geometry)
  | codes (xs : List CodeFields)
  | segments (xs : List Segment)
  | feeders (xs : List Nat)
  deriving DecidableEq, Repr

/-- Cell `i` of a cell list: bit 7 - (i mod 8) of byte floor(i / 8) (R168). -/
def cellBit (bytes : List Byte) (i : Nat) : Bool := (bytes.getD (i / 8) 0).getLsbD (7 - i % 8)

/-- One weave entry (R168). -/
def decodeWeave : List Byte → Option Geometry
  | w :: h :: start :: c1 :: c0 :: cells =>
    if (num16 c1 c0 + 7) / 8 ≤ cells.length then
      some
        { w := w.toNat, h := h.toNat, start := start.toNat, cells := (List.range (num16 c1 c0)).map (cellBit cells) }
    else none
  | _ => none

/-- `n` Code Map entries (R168). -/
def decodeCodes : Nat → List Byte → Option (List CodeFields)
  | 0, _ => some []
  | n + 1, slot :: invert :: dx :: dy :: rest =>
    (decodeCodes n rest).map
      (fun xs => { slot := slot.toNat, invert := invert.toNat, dx := dx.toNat, dy := dy.toNat } :: xs)
  | _ + 1, _ => none

/-- The direction a byte names, or the byte as received (R168). -/
def directionOfByte (b : Byte) : TieDirection :=
  if b = 0x00#8 then .asc else if b = 0x01#8 then .desc else .unknown b

/-- The kind a byte names, or the byte as received (R168). -/
def kindOfByte (b : Byte) : TieKind :=
  if b = 0x00#8 then .figure else if b = 0x01#8 then .selvedge else if b = 0x02#8 then .void else .unknown b

/-- `n` tie segments; one that is not SELVEDGE keeps its selvedge fields as absent (R10, R168). -/
def decodeSegments : Nat → List Byte → Option (List Segment)
  | 0, _ => some []
  | n + 1, h1 :: h0 :: n1 :: n0 :: d :: c1 :: c0 :: e0 :: k :: slot :: invert :: rest =>
    (decodeSegments n rest).map
      (fun xs =>
        { h0 := num16 h1 h0, n := num16 n1 n0, direction := directionOfByte d, c0 := num16 c1 c0, e0 := e0.toNat,
          kind := kindOfByte k,
          selvedge := if kindOfByte k = .selvedge then some (slot.toNat, invert.toNat) else none } :: xs)
  | _ + 1, _ => none

/-- `n` Weft Table entries (R168). -/
def decodeFeeders (n : Nat) (bytes : List Byte) : Option (List Nat) :=
  if n ≤ bytes.length then some ((bytes.take n).map BitVec.toNat) else none

/-- The most entries one DATA frame may carry (R185). -/
def maxEntries : TableId → Nat
  | .weave => 1
  | .codemap => 16
  | .tie => 16
  | .weft => 8

/-- `n` whole entries of a table from the bytes after the entry count (R185, R168). -/
def decodeEntries (t : TableId) (n : Nat) (bytes : List Byte) : Option LoadEntries :=
  match t with
  | .weave => (decodeWeave bytes).map (fun g => .weaves [g])
  | .codemap => (decodeCodes n bytes).map .codes
  | .tie => (decodeSegments n bytes).map .segments
  | .weft => (decodeFeeders n bytes).map .feeders

/-- The entries written to the target, from index `start` on (R3, R6, R10, R13). -/
def writeEntries (start : Nat) (e : LoadEntries) (t : Tables) : Tables :=
  match e with
  | .weaves xs => { t with weaves := writeFrom start (xs.map fun g => .invalid (some g)) t.weaves }
  | .codes xs => { t with codes := writeFrom start (xs.map fun f => .unmapped (some f)) t.codes }
  | .segments xs => { t with tie := t.tie ++ xs }
  | .feeders xs => { t with wefts := writeFrom start (xs.map fun f => .unmapped (some f)) t.wefts }

/-! ## LOAD CLOSE -/

/-- The result of a table's close checks: passed, or the outcome and the failing index (R186). -/
inductive CloseCheck where
  | pass
  | fail (o : OutcomeCode) (index : Nat)
  deriving DecidableEq, Repr

/-- What a slot's load wrote passes the checks of R4. -/
def geometryPasses (g : Geometry) : Bool :=
  1 ≤ g.w && g.w ≤ 32 && 1 ≤ g.h && g.h ≤ 32 && g.start < g.h && g.cells.length == g.w * g.h

/-- What has been written to an INVALID slot. -/
def writtenGeometry : WeaveSlot → Option Geometry
  | .empty => none
  | .loaded g => some g
  | .invalid written => written

/-- A slot passes the close checks (R4). -/
def slotPasses (slot : WeaveSlot) : Bool := ((writtenGeometry slot).map geometryPasses).getD false

/-- The fields of a Code Map entry in whatever state. -/
def writtenFields : CodeEntry → Option CodeFields
  | .unmapped written => written
  | .mapped f => some f

/-- The fields are in range (R7, first pass). -/
def fieldsInRange (f : CodeFields) : Bool := f.slot ≤ 15 && f.invert ≤ 1 && f.dx ≤ 31 && f.dy ≤ 31

/-- The number of a Weft Table entry in whatever state. -/
def writtenFeeder : WeftEntry → Option Nat
  | .unmapped written => written
  | .mapped f => some f

/-- The fields of a segment are in range, and it ends within the hook numbers (R11, first pass). -/
def segmentInRange (g : Segment) : Bool :=
  g.h0 ≤ 12287 && 1 ≤ g.n && g.n ≤ 12288 && (g.direction == .asc || g.direction == .desc) && g.c0 ≤ 16383 && g.e0 ≤ 31
    && (g.kind == .figure || g.kind == .void
      || (g.kind == .selvedge && (g.selvedge.map fun p => decide (p.1 ≤ 15 ∧ p.2 ≤ 1)).getD false))
    && g.h0 + g.n ≤ 12288

/-- The first position, counted from `i`, whose segment is out of range or begins before the previous one's end
(R11, first pass). -/
def firstBadSegment : Nat → Nat → List Segment → Option Nat
  | _, _, [] => none
  | i, lastEnd, g :: gs =>
    if segmentInRange g = true ∧ lastEnd ≤ g.h0 then firstBadSegment (i + 1) (g.h0 + g.n) gs else some i

/-- The indices of a load's range in order. -/
def loadIndices (ld : Load) : List Nat := (List.range ld.count).map (ld.first + ·)

/-- The first index of a load's range that fails a test. -/
def firstFailing (ld : Load) (passes : Nat → Bool) : Option Nat := (loadIndices ld).find? fun i => !passes i

/-- The close checks of a WEAVE load (R4). -/
def checkWeaves (ld : Load) (t : Tables) : CloseCheck :=
  match firstFailing ld fun i => ((t.weaves[i]?).map slotPasses).getD false with
  | some i => .fail .range i
  | none => .pass

/-- The fields written to a code of a load. -/
def codeWritten (t : Tables) (i : Nat) : Option CodeFields := (t.codes[i]?).bind writtenFields

/-- The close checks of a CODEMAP load: ranges, then slots (R7). -/
def checkCodes (ld : Load) (t : Tables) : CloseCheck :=
  match firstFailing ld fun i => ((codeWritten t i).map fieldsInRange).getD false with
  | some i => .fail .range i
  | none =>
    match firstFailing ld fun i => ((codeWritten t i).map fun f => weaveLoaded t f.slot).getD false with
    | some i => .fail .notFound i
    | none => .pass

/-- The close checks of a TIE load: ranges and order, then slots (R11). -/
def checkTie (t : Tables) : CloseCheck :=
  match firstBadSegment 0 0 t.tie with
  | some i => .fail .range i
  | none =>
    match t.tie.findIdx? fun g => !segmentReady t g with
    | some i => .fail .notFound i
    | none => .pass

/-- The close checks of a WEFT load (R13). -/
def checkWefts (ld : Load) (t : Tables) : CloseCheck :=
  match firstFailing ld fun i =>
      (((t.wefts[i]?).bind writtenFeeder).map fun f => decide (1 ≤ f ∧ f ≤ 8)).getD false with
  | some i => .fail .range i
  | none => .pass

/-- The close checks of a load's table (R186). -/
def checkLoad (ld : Load) (t : Tables) : CloseCheck :=
  match ld.table with
  | .weave => checkWeaves ld t
  | .codemap => checkCodes ld t
  | .tie => checkTie t
  | .weft => checkWefts ld t

/-- Whether an index lies in a load's range. -/
def inLoad (ld : Load) (i : Nat) : Bool := decide (ld.first ≤ i ∧ i < ld.first + ld.count)

/-- A slot that becomes LOADED with what was written. -/
def slotLoaded (slot : WeaveSlot) : WeaveSlot :=
  match writtenGeometry slot with
  | some g => .loaded g
  | none => slot

/-- An entry that becomes MAPPED with what was written. -/
def entryMapped (e : CodeEntry) : CodeEntry :=
  match writtenFields e with
  | some f => .mapped f
  | none => e

/-- A weft entry that becomes MAPPED with what was written. -/
def weftMapped (e : WeftEntry) : WeftEntry :=
  match writtenFeeder e with
  | some f => .mapped f
  | none => e

/-- The target made usable when the close checks pass; a weave load sets the row counters of its range (R4, R7, R11,
R13). -/
def makeUsable (ld : Load) (s : State) : State :=
  match ld.table with
  | .weave =>
    let weaves := Vector.ofFn fun i => if inLoad ld i then slotLoaded s.tables.weaves[i] else s.tables.weaves[i]
    (s.setTables { s.tables with weaves := weaves }).setEngine
      { s.engine with
        rowCounters := Vector.ofFn fun i => if inLoad ld i then (startRows weaves)[i] else s.engine.rowCounters[i] }
  | .codemap =>
    s.setTables
      { s.tables with
        codes := Vector.ofFn fun i => if inLoad ld i then entryMapped s.tables.codes[i] else s.tables.codes[i] }
  | .tie => s.setTables { s.tables with tieValid := true }
  | .weft =>
    s.setTables
      { s.tables with
        wefts := Vector.ofFn fun i => if inLoad ld i then weftMapped s.tables.wefts[i] else s.tables.wefts[i] }

/-- The load transaction closed without checks; its target stays as it is (R186, R187). -/
def dropLoad (s : State) : State := s.setLoad none

/-- The row counters at RESET (R2). -/
def resetRowCounters (s : State) : State :=
  s.setEngine { s.engine with rowCounters := startRows s.tables.weaves }

end Sys2Proof.Machine
end

