-- ==== Sys2Proof/Machine/Expansion.lean ====
section
/-! DEFINITION. Pick Expansion: the lift of a hook, the completion of a record, and the discard (R19-R36). -/

namespace Sys2Proof.Machine

/-! ## The lift of one hook (R26-R32) -/

/-- The segment that covers hook `h` (R26). -/
def segmentOf (tie : List Segment) (h : Nat) : Option Segment :=
  tie.find? fun g => decide (g.h0 ≤ h ∧ h < g.h0 + g.n)

/-- A start moved by an offset up (ASC) or down (DESC) (R27, R30). -/
def along (d : TieDirection) (start offset : Int) : Int :=
  match d with
  | .asc => start + offset
  | .desc => start - offset
  | .unknown _ => start + offset

/-- The code of the run that covers column `c`, runs taken in the order received (R27). -/
def runCode : List Run → Nat → Option Nat
  | [], _ => none
  | r :: rs, c => if c < r.length then some r.code else runCode rs (c - r.length)

/-- The figure code of a column within the bound width; none outside it (R27). -/
def columnCode (row : BacklogRow) (c : Int) : Option Nat :=
  if 0 ≤ c ∧ c < (row.width : Int) then runCode row.runs c.toNat else none

/-- How a hook is rendered from a weave slot (R29). -/
structure Rendering where
  slot : Nat
  invert : Nat
  dx : Nat
  dy : Nat
  deriving DecidableEq, Repr

/-- The rendering of a figure code, if the code is ready (R28, R29). -/
def codeRendering (t : Tables) (code : Nat) : Option Rendering :=
  if codeReady t code then
    (codeAt t code).map fun f => { slot := f.slot, invert := f.invert, dx := f.dx, dy := f.dy }
  else none

/-- The lift from a weave slot before fault forcing: end index, row index, cell, inversion (R30, R31). -/
def weaveLift (t : Tables) (snapshot : Vector (Option Nat) 16) (g : Segment) (q : Nat) (r : Rendering) : Bool :=
  match weaveAt t r.slot, if h : r.slot < 16 then snapshot[r.slot] else none with
  | some w, some row =>
    let e := ((along g.direction g.e0 q + (r.dx : Int)) % (w.w : Int)).toNat
    let y := (row + r.dy) % w.h
    (w.cells.getD (y * w.w + e) false) != (r.invert == 1)
  | _, _ => false

/-- The design column of a hook at offset `q` of a FIGURE segment (R27). -/
def figureColumn (g : Segment) (q : Nat) : Int := along g.direction g.c0 q

/-- Hook `h` lies in a FIGURE segment outside the bound width of the row, and so marks the record (R27, R28). -/
def outsideDesign (t : Tables) (row : BacklogRow) (h : Nat) : Bool :=
  match segmentOf t.tie h with
  | some g => g.kind == .figure && (columnCode row (figureColumn g (h - g.h0))).isNone
  | none => false

/-- The rendering of hook `h`: by its figure code, or code 0 outside the design, or by its SELVEDGE segment (R26-R29). -/
def hookRendering (t : Tables) (row : BacklogRow) (g : Segment) (h : Nat) : Option Rendering :=
  match g.kind with
  | .figure => codeRendering t ((columnCode row (figureColumn g (h - g.h0))).getD 0)
  | .selvedge => g.selvedge.map fun p => { slot := p.1, invert := p.2, dx := 0, dy := 0 }
  | .void => none
  | .unknown _ => none

/-- The lift of hook `h` in a record before fault forcing (R26-R31). -/
def hookLift (t : Tables) (row : BacklogRow) (snapshot : Vector (Option Nat) 16) (h : Nat) : Bool :=
  match segmentOf t.tie h with
  | none => false
  | some g =>
    match hookRendering t row g h with
    | none => false
    | some r => weaveLift t snapshot g (h - g.h0) r

/-- Whether hook `h` is forced to 0 in the record under work: as settled when the Hook Fault Map changed for it, else as
the map lists it now (R32). -/
def forcedInRecord (s : State) (h : Nat) : Bool :=
  match s.engine.settled.find? (fun p => p.1 == h) with
  | some p => p.2
  | none => isListed s.health.faultMap h

/-- The finished lifts of the record under work (R26-R32). -/
def recordLifts (s : State) (row : BacklogRow) (r : LiftRecord) : List Bool :=
  (List.range (installed s)).map fun h => !forcedInRecord s h && hookLift s.tables row r.snapshot h

/-- The column-range mark of a record of this row (R28). -/
def recordMark (s : State) (row : BacklogRow) : Bool :=
  (List.range (installed s)).any (outsideDesign s.tables row)

/-! ## The engine (R23, R24, R33) -/

/-- A record turns READY with its lifts and its mark (R33). -/
def finishRecord (lifts : List Bool) (mark : Bool) (r : LiftRecord) : LiftRecord :=
  { r with state := .ready, lifts := lifts, mark := mark }

/-- The oldest EXPANDING record, which is the one under work (R24, R37). -/
def recordUnderWork (queue : List LiftRecord) : Option LiftRecord := queue.find? fun r => r.state == .expanding

/-- The oldest EXPANDING record changed in place. -/
def updateUnderWork (f : LiftRecord → LiftRecord) : List LiftRecord → List LiftRecord
  | [] => []
  | r :: rs => if r.state = .expanding then f r :: rs else r :: updateUnderWork f rs

/-- The backlog after a record of its oldest row is completed: the row leaves with its last record (R23, R24). -/
def advanceBacklog : List BacklogRow → List BacklogRow
  | [] => []
  | row :: rest => if row.count ≤ row.done + 1 then rest else { row with done := row.done + 1 } :: rest

/-- The engine goes on after completing a record (R24). -/
def nextRecord (s : State) : State :=
  s.setEngine { s.engine with backlog := advanceBacklog s.engine.backlog, settled := [] }

/-- The record under work turns READY: its lifts are complete, COLUMN_RANGE is raised if its mark is set, and the engine
goes on (R24, R33). -/
def completeRecord (row : BacklogRow) (r : LiftRecord) (s : State) : State :=
  let mark := recordMark s row
  let s1 :=
    s.setStore { s.store with queue := updateUnderWork (finishRecord (recordLifts s row r) mark) s.store.queue }
  nextRecord (if mark then raise .columnRange s1 else s1)

/-- The engine finishes the record it is at work on; waiting, it has none (R24, R33). -/
def recordDone (s : State) : State :=
  match s.engine.backlog, recordUnderWork s.store.queue with
  | row :: _, some r => completeRecord row r s
  | _, _ => s

/-- `n` records finished one after another. -/
def recordsDone : Nat → State → State
  | 0, s => s
  | n + 1, s => recordsDone n (recordDone s)

/-- The engine starts on newly accepted work of `k` records. With no hook installed each record turns READY as soon as the
engine starts it (R25). -/
def startEngine (k : Nat) (s : State) : State := if installed s = 0 then recordsDone k s else s

/-! ## Discard and reset (R34, R35) -/

/-- A row counter moved back by `m` (R34). -/
def rollBack (slot : WeaveSlot) (r m : Nat) : Nat :=
  match loadedGeometry slot with
  | some g => (((r : Int) - (m : Int)) % (g.h : Int)).toNat
  | none => 0

/-- The queue and the backlog emptied and the row counters rolled back by the number of records removed (R34). -/
def discardWork (s : State) : State :=
  let m := s.store.queue.length
  (s.setStore { s.store with queue := [] }).setEngine
    { rowCounters := Vector.ofFn fun i => rollBack s.tables.weaves[i] s.engine.rowCounters[i] m, backlog := [],
      settled := [] }

/-- Work abandoned and the backlog emptied (R35). -/
def abandonWork (s : State) : State := s.setEngine { s.engine with backlog := [], settled := [] }

end Sys2Proof.Machine
end

