-- ==== Sys2Proof/Machine/Admission.lean ====
section
/-! DEFINITION. Pick Admission: reading a DESIGN body, the nine checks, and acceptance (R170-R180, R20-R23). -/

namespace Sys2Proof.Machine

/-- A design row as a DESIGN body carries it (R168). -/
structure DesignRow where
  pick : Nat
  colour : Nat
  count : Nat
  runs : List Run
  deriving DecidableEq, Repr

/-- `n` runs, and nothing after them (R168). -/
def decodeRuns : Nat → List Byte → Option (List Run)
  | 0, [] => some []
  | 0, _ :: _ => none
  | n + 1, code :: l1 :: l0 :: rest =>
    (decodeRuns n rest).map (fun xs => { code := code.toNat, length := num16 l1 l0 } :: xs)
  | _ + 1, _ => none

/-- A DESIGN body whose length is 6 + 3 × run count; none for any other length (R168, R173). -/
def decodeDesign : List Byte → Option DesignRow
  | p1 :: p0 :: colour :: count :: n1 :: n0 :: rest =>
    (decodeRuns (num16 n1 n0) rest).map fun runs =>
      { pick := num16 p1 p0, colour := colour.toNat, count := count.toNat, runs := runs }
  | _ => none

/-- A run is well formed (R173). -/
def runOk (r : Run) : Bool := r.code ≤ 15 && 1 ≤ r.length && r.length ≤ 16384

/-- The sum of the run lengths. -/
def rowWidth (runs : List Run) : Nat := (runs.map Run.length).sum

/-- The row is well formed and covers exactly the design width (R173). -/
def rowOk (width : Nat) (row : DesignRow) : Bool :=
  1 ≤ row.count && row.count ≤ 8 && 1 ≤ row.runs.length && row.runs.length ≤ 512 && row.runs.all runOk && width != 0
    && rowWidth row.runs == width

/-- The checks from the fourth on, over a row that is well formed (R171, R174-R177). -/
def judgeRow (row : DesignRow) (s : State) : OutcomeCode :=
  if s.admission.lastAccepted = some row.pick then .repeated
  else if row.pick ≠ s.admission.expected then .sequence
  else if tieReady s.tables = false then .tableInvalid
  else if (row.runs.all fun r => codeReady s.tables r.code) = false then .codeUnmapped
  else if feederAt s.tables row.colour = none then .weftUnmapped
  else if queueFree s < row.count ∨ Config.backlogSize ≤ s.engine.backlog.length then .overrun
  else .accepted

/-- The outcome of a DESIGN body: the nine checks in order (R171). -/
def judgeDesign (body : List Byte) (s : State) : OutcomeCode :=
  if s.control.node = .init then .notReady
  else if s.load ≠ none then .loading
  else
    match decodeDesign body with
    | none => .rowLength
    | some row => if rowOk s.tables.width row then judgeRow row s else .rowLength

/-- The row snapshot of record `j` of a row (R21). -/
def rowSnapshot (s : State) (j : Nat) : Vector (Option Nat) 16 :=
  Vector.ofFn fun i => (loadedGeometry s.tables.weaves[i]).map fun g => (s.engine.rowCounters[i] + j) % g.h

/-- A row counter after `k` records are accepted (R21). -/
def advanceCounter (slot : WeaveSlot) (r k : Nat) : Nat :=
  match loadedGeometry slot with
  | some g => (r + k) % g.h
  | none => r

/-- Record `j` of an accepted row (R19-R21). -/
def newRecord (s : State) (row : DesignRow) (feeder j : Nat) : LiftRecord :=
  { id := { pick := row.pick, sub := j }, feeder := feeder, state := .expanding, snapshot := rowSnapshot s j,
    mark := false, lifts := [] }

/-- The accepted row as the backlog holds it (R23). -/
def newBacklogRow (s : State) (row : DesignRow) : BacklogRow :=
  { pick := row.pick, count := row.count, width := s.tables.width, runs := row.runs, done := 0 }

/-- The reservation, the row counters, the backlog and the pick numbers of an accepted row (R178). -/
def reserveRow (row : DesignRow) (feeder : Nat) (s : State) : State :=
  ((s.setStore
        { s.store with queue := s.store.queue ++ (List.range row.count).map (newRecord s row feeder) }).setEngine
      { s.engine with
        rowCounters := Vector.ofFn fun i => advanceCounter s.tables.weaves[i] s.engine.rowCounters[i] row.count,
        backlog := s.engine.backlog ++ [newBacklogRow s row] }).setAdmission
    { lastAccepted := some row.pick, expected := (row.pick + 1) % 65536 }

/-- Acceptance of a row (R178): reserved, and the engine started if it was waiting. -/
def acceptRow (row : DesignRow) (s : State) : State :=
  startEngine row.count (reserveRow row ((feederAt s.tables row.colour).getD 0) s)

/-- The state after a DESIGN body is judged with an outcome: accepted, repeated without change, or refused with
PICK_REFUSED (R174, R178, R179). -/
def applyDesign (o : OutcomeCode) (body : List Byte) (s : State) : State :=
  match o with
  | .accepted =>
    match decodeDesign body with
    | some row => acceptRow row s
    | none => s
  | .repeated => s
  | _ => raise .pickRefused s

/-- The pick numbers after RESET (R170). -/
def resetAdmission (s : State) : State := s.setAdmission { expected := 0, lastAccepted := none }

end Sys2Proof.Machine
end

