-- ==== Sys2Proof/Machine/Health.lean ====
section
/-! DEFINITION. Hook Health: the Hook Fault Map, the module records, and what a status word does (R118-R133). -/

namespace Sys2Proof.Machine

/-! ## Progress of the record under work (R32) -/

/-- The Hook Fault Map is about to change for hook `h`, which until now is `forced` or not. If a record is under work, the
engine may already have computed the hook; then its forcing in that record is decided (R32, log entry 7). -/
def settleHook (h : Nat) (forced : Bool) (s : State) : State :=
  if s.engine.backlog.isEmpty || s.engine.settled.any (fun p => p.1 == h) then s
  else
    (s.setEngine
      { s.engine with
        settled := if Config.engineAhead s.draws h then (h, forced) :: s.engine.settled else s.engine.settled }).setDraws
      (s.draws + 1)

/-! ## The Hook Fault Map -/

/-- An entry inserted at the place that keeps hook order (R119). -/
def insertFault (e : FaultEntry) : List FaultEntry → List FaultEntry
  | [] => [e]
  | x :: xs => if e.hook < x.hook then e :: x :: xs else x :: insertFault e xs

/-- The 16 hooks of module `k` of chain `c` are all listed (R120). -/
def moduleFull (s : State) (c : Fin 6) (k : Nat) : Bool :=
  (List.range 16).all fun j => isListed s.health.faultMap (firstHook s c k + j)

/-- A module all of whose hooks are now listed latches if it is ACTIVE or RESTING (R120). -/
def latchIfFull (c : Fin 6) (k : Nat) (s : State) : State :=
  match moduleRecord s c k with
  | none => s
  | some r =>
    match r.state with
    | .active => if moduleFull s c k then raise .moduleLatched (setModule c k { r with state := .latched } s) else s
    | .resting _ => if moduleFull s c k then raise .moduleLatched (setModule c k { r with state := .latched } s) else s
    | .latched => s
    | .lost => s

/-- A finding for an unlisted hook while the map has room: the entry is inserted and HOOK_FAULT raised (R119). -/
def listHook (e : FaultEntry) (s : State) : State :=
  let s1 := settleHook e.hook false s
  raise .hookFault (s1.setHealth { s1.health with faultMap := insertFault e s1.health.faultMap })

/-- A finding taken against the map, for a hook of module `k` of chain `c` (R119, R120). -/
def takeFinding (c : Fin 6) (k : Nat) (e : FaultEntry) (s : State) : State :=
  if isListed s.health.faultMap e.hook then s
  else if s.health.faultMap.length < Config.faultMapSize then latchIfFull c k (listHook e s)
  else raise .faultMapFull (s.setHealth { s.health with overflow := min (s.health.overflow + 1) 65535 })

/-- The fault kind of a finding; OK is none. -/
def findingKind : Finding → Option FaultKind
  | .ok => none
  | .opened => some .opened
  | .shorted => some .shorted

/-- The entry a finding for hook `h` makes against the latch it is about, if it is taken: the magnet must have been
energized in that latch, which gives the source (R113). -/
def findingEntry (latch : Shift) (h : Nat) (f : Finding) : Option FaultEntry :=
  match findingKind f, latch.source with
  | some kind, some source =>
    if latch.values.getD h false then some { hook := h, kind := kind, source := source } else none
  | _, _ => none

/-- The magnet findings of a word, in magnet order, the first being for hook `h` (R124 step 2). -/
def takeFindings (latch : Shift) (c : Fin 6) (k : Nat) : Nat → List Finding → State → State
  | _, [], s => s
  | h, f :: fs, s =>
    takeFindings latch c k (h + 1) fs
      (match findingEntry latch h f with
        | some e => takeFinding c k e s
        | none => s)

/-! ## Module records -/

/-- A strike on an ACTIVE or RESTING module (R125, R126). -/
def strike (c : Fin 6) (k : Nat) (r : ModuleRecord) (s : State) : State :=
  if 3 ≤ r.strikes + 1 then
    raise .moduleLatched (setModule c k { state := .latched, strikes := r.strikes + 1, clean := 0 } s)
  else
    raise .moduleRest
      (setModule c k { state := .resting (s.health.restTime * 1000), strikes := r.strikes + 1, clean := 0 } s)

/-- A clean shift of an ACTIVE module (R128). -/
def cleanShift (c : Fin 6) (k : Nat) (r : ModuleRecord) (s : State) : State :=
  if 16 ≤ r.clean + 1 then setModule c k { r with strikes := 0, clean := 0 } s
  else setModule c k { r with clean := r.clean + 1 } s

/-- The overcurrent step of a word (R124 step 3). -/
def takeOvercurrent (c : Fin 6) (k : Nat) (overcurrent : Bool) (s : State) : State :=
  match moduleRecord s c k with
  | none => s
  | some r =>
    match r.state with
    | .active => if overcurrent then strike c k r s else cleanShift c k r s
    | .resting _ => if overcurrent then strike c k r s else s
    | .latched => s
    | .lost => s

/-- A module whose presence marker is missing (R129). -/
def loseModule (c : Fin 6) (k : Nat) (r : ModuleRecord) (s : State) : State :=
  if r.state = .lost then s else raise .moduleLost (setModule c k { r with state := .lost } s)

/-- A present module's word: its findings, unless the module is LOST, then its overcurrent (R124 steps 2, 3). -/
def takePresent (latch : Shift) (c : Fin 6) (k : Nat) (w : StatusWord) (r : ModuleRecord) (s : State) : State :=
  takeOvercurrent c k w.overcurrent
    (if r.state = .lost then s else takeFindings latch c k (firstHook s c k) w.magnets.toList s)

/-- A module that counts as failed for its chain (R131). -/
def isFailed (r : ModuleRecord) : Bool := r.state == .latched || r.state == .lost

/-- The failure condition of a PRESENT chain, judged from its records (R131). -/
def chainFailed (rs : List ModuleRecord) : Bool := !rs.isEmpty && rs.all isFailed

/-- CHAIN_FAILED raised when a chain passes from not failed to failed (R131). -/
def judgeChain (c : Fin 6) (failedBefore : Bool) (s : State) : State :=
  if !failedBefore && chainFailed s.health.modules[c] then raise .chainFailed s else s

/-- One status word, taken in the three steps of R124, and the chain's failure condition judged after it (R131). -/
def takeWord (latch : Shift) (c : Fin 6) (k : Nat) (w : StatusWord) (s : State) : State :=
  match moduleRecord s c k with
  | none => s
  | some r =>
    judgeChain c (chainFailed s.health.modules[c])
      (if w.present then takePresent latch c k w r s else loseModule c k r s)

/-- The word of a module that did not answer (R112): presence missing. -/
def missingWord : StatusWord := { present := false, overcurrent := false, magnets := Vector.replicate 16 .ok }

/-- The words of a chain for `n` modules from module `k` on; a module with no word in the stream did not answer (R112,
log entry 11). -/
def takeChain (latch : Shift) (c : Fin 6) : Nat → Nat → List StatusWord → State → State
  | _, 0, _, s => s
  | k, n + 1, ws, s => takeChain latch c (k + 1) n ws.tail (takeWord latch c k (ws.headD missingWord) s)

/-- The status of a shift, about the latch before it, handed over in chain order and then module order (R114, R124). -/
def takeStatus (latch : Shift) (status : List (List StatusWord)) (s : State) : State :=
  [0, 1, 2, 3, 4, 5].foldl
    (fun t (c : Fin 6) => takeChain latch c 0 t.health.modules[c].length (status.getD c []) t) s

/-! ## Rests, release, clearing -/

/-- A rest timer expires: the module returns to ACTIVE with its clean-shift count 0 (R127). A module that is not RESTING
has no timer. -/
def expireRest (c : Fin 6) (k : Nat) (s : State) : State :=
  match moduleRecord s c k with
  | none => s
  | some r =>
    match r.state with
    | .resting _ => setModule c k { r with state := .active, clean := 0 } s
    | .active => s
    | .latched => s
    | .lost => s

/-- A LATCHED module released (R130). -/
def releaseModule (c : Fin 6) (k : Nat) (s : State) : State :=
  setModule c k { state := .active, strikes := 0, clean := 0 } s

/-- The listed hooks settled one by one before the map is cleared (R32). -/
def settleListed : List FaultEntry → State → State
  | [], s => s
  | e :: es, s => settleListed es (settleHook e.hook true s)

/-- The Hook Fault Map emptied and the overflow count 0 (R122). -/
def clearMap (s : State) : State :=
  let s1 := settleListed s.health.faultMap s
  s1.setHealth { s1.health with faultMap := [], overflow := 0 }

end Sys2Proof.Machine
end

