-- ==== Sys2Proof/Machine/Selector.lean ====
section
/-! DEFINITION. The Selector Interface: shifts and latches, shift requests, chain sizing, and what the chains
receive (R100-R116). -/

namespace Sys2Proof.Machine

/-- Hook `h` is carried by an ACTIVE module (R104 item 2). -/
def onActiveModule (s : State) (h : Nat) : Bool :=
  match moduleOfHook s h with
  | some r => r.state == .active
  | none => false

/-- The value of hook `h` in a PATTERN shift that starts now (R104). -/
def shiftValue (s : State) (h : Nat) : Bool :=
  !isListed s.health.faultMap h && onActiveModule s h && presentedLift s.store h

/-- A shift of a kind as it is fixed when it starts now: its values and its source (R104). -/
def composeShift (kind : ShiftKind) (s : State) : Shift :=
  match kind with
  | .pattern =>
    { kind := .pattern, source := presentedSource s.store, values := (List.range (installed s)).map (shiftValue s) }
  | .zero => { kind := .zero, source := none, values := List.replicate (installed s) false }

/-- A shift starts. With no chain PRESENT it ends as soon as it starts (R106). -/
def startShift (kind : ShiftKind) (s : State) : State :=
  if anyPresent s then s.setSelector { s.selector with shift := some (composeShift kind s) }
  else s.setSelector { s.selector with shift := none, latch := composeShift kind s }

/-- A pending shift set. -/
def setPendingShift (p : Option ShiftKind) (s : State) : State := s.setSelector { s.selector with pending := p }

/-- The Pick Store's request for a PATTERN shift (R109). -/
def requestPattern (s : State) : State :=
  match s.selector.shift, s.selector.pending with
  | none, _ => startShift .pattern s
  | some _, none => raise .selectLate (setPendingShift (some .pattern) s)
  | some _, some .zero => raise .selectLate (setPendingShift (some .pattern) s)
  | some _, some .pattern => raise .selectOverrun s

/-- What entry to IDLE from RUN or HALT does with the shifts (R110). -/
def idleEntryShift (s : State) : State :=
  match s.selector.shift with
  | none => startShift .zero s
  | some sh =>
    match sh.kind with
    | .pattern => setPendingShift (some .zero) s
    | .zero => setPendingShift none s

/-- The latch of the shift in flight: the magnets take its values, and the last latch record is its (R106, R107, R111
item 1). -/
def latchShift (sh : Shift) (s : State) : State := s.setSelector { s.selector with shift := none, latch := sh }

/-- The pending shift, if any, starts (R111 item 3). -/
def startPending (s : State) : State :=
  match s.selector.pending with
  | none => s
  | some kind => startShift kind (setPendingShift none s)

/-- The end of a shift (R111): the latch, the status about the latch before it, the pending shift. -/
def endShift (status : List (List StatusWord)) (s : State) : State :=
  match s.selector.shift with
  | none => s
  | some sh => startPending (takeStatus s.selector.latch status (latchShift sh s))

/-! ## What the chains receive -/

/-- The three outputs of a chain, DATA, CLOCK and LATCH, over the shift or the sizing pass that is in progress: the value of
DATA in each clock period, the first clocked first; whether a latch strobe ends it; and whether the chain is one that is not
driven, with DATA held at 0. -/
structure ChainOutputs where
  clocked : List Bool
  strobe : Bool
  heldAtZero : Bool
  deriving DecidableEq, Repr

/-- A chain that receives nothing now, with no rule for the level of its DATA output (log entry 23). -/
def quietChain : ChainOutputs := { clocked := [], strobe := false, heldAtZero := false }

/-- The values of one chain, of `m` modules with first hook `f`, among the values of all hooks. -/
def chainSlice (f m : Nat) (values : List Bool) : List Bool := (values.drop f).take (16 * m)

/-- What a shift gives the chain `c`: a PRESENT one its values, the outermost module's magnet 15 first and module 0's magnet 0
last, and then the latch strobe; one that is ABSENT nothing (R100, R106). -/
def shiftOutputs (s : State) (c : Fin 6) : ChainOutputs :=
  match s.selector.chains[c], s.selector.shift with
  | .absent, _ => { clocked := [], strobe := false, heldAtZero := true }
  | .present _, none => quietChain
  | .present m, some sh =>
    { clocked := (chainSlice (firstHook s c 0) m sh.values).reverse, strobe := true, heldAtZero := false }

/-- The outputs SC0-SC5 DATA, CLOCK and LATCH of the chain `c` (R100, R101, R106, log entry 23): in the flush 4,096 zeros and
a latch strobe; in a marker pass that has not ended on the chain a single marker, which is a 1, followed by zeros, without a
strobe; outside sizing what the shift in flight gives it. -/
def chainOutputs (s : State) (c : Fin 6) : ChainOutputs :=
  match s.selector.sizing with
  | .flush => { clocked := List.replicate 4096 false, strobe := true, heldAtZero := false }
  | .marker found =>
    match found[c] with
    | none => { clocked := true :: List.replicate 4095 false, strobe := false, heldAtZero := false }
    | some _ => quietChain
  | .done => shiftOutputs s c

/-! ## Sizing -/

/-- Sizing begins: every chain ABSENT, shifts abandoned, the flush pass (R100, R101, R116). The last latch record, and so
the magnets, stay until the flush latch. -/
def beginSizing (s : State) : State :=
  s.setSelector
    { s.selector with chains := Vector.replicate 6 .absent, sizing := .flush, shift := none, pending := none }

/-- The flush pass ends with its latch and the marker passes begin (R101). -/
def endFlush (s : State) : State :=
  match s.selector.sizing with
  | .flush =>
    s.setSelector
      { s.selector with
        sizing := .marker (Vector.replicate 6 none), latch := { kind := .zero, source := none, values := [] } }
  | .marker _ => s
  | .done => s

/-- The size a marker pass gives (R102): the marker came back after `p + 1` clock periods, or not at all. -/
def sizeOfMarker : Option (Fin 4096) → ChainSize
  | none => .absent
  | some p => if p.val + 1 ≤ 2048 then .present ((p.val + 1 + 15) / 16) else .absent

/-- Whether a marker pass shows a chain over length (R102). -/
def overLength : Option (Fin 4096) → Bool
  | none => false
  | some p => decide (2048 < p.val + 1)

/-- A fresh module record (R123). -/
def freshModule : ModuleRecord := { state := .active, strikes := 0, clean := 0 }

/-- Completion of sizing: the chain sizes are set, a fresh record for every module, and INIT to IDLE (R102). -/
def completeSizing (chains : Vector ChainSize 6) (s : State) : State :=
  setNode .idle
    ((s.setSelector { s.selector with chains := chains, sizing := .done }).setHealth
      { s.health with modules := Vector.ofFn fun c => List.replicate (moduleCount chains[c]) freshModule })

/-- Completion of sizing once every chain's marker pass has ended (R102). -/
def completeIfAll (found : Vector (Option ChainSize) 6) (s : State) : State :=
  if found.toList.all Option.isSome then completeSizing (Vector.ofFn fun c => found[c].getD .absent) s else s

/-- The marker pass of a chain ends (R102). A pass that has ended does not end again. -/
def endMarkerPass (c : Fin 6) (p : Option (Fin 4096)) (s : State) : State :=
  match s.selector.sizing with
  | .marker found =>
    if found[c].isSome then s
    else
      let found' := found.set c (some (sizeOfMarker p))
      let s1 := s.setSelector { s.selector with sizing := .marker found' }
      completeIfAll found' (if overLength p then raise .chainSize s1 else s1)
  | .flush => s
  | .done => s

end Sys2Proof.Machine
end

