-- ==== Sys2Proof/Machine/Store.lean ====
section
/-! DEFINITION. The Pick Store: what a crossing does to the queue, the history, the rewind depth and the overshoot count
(R40-R55). -/

namespace Sys2Proof.Machine

/-- An entry appended to the Woven History, the oldest evicted first if the history is full (R41). -/
def appendHistory (e : HistoryEntry) (hist : List HistoryEntry) : List HistoryEntry :=
  (if Config.historySize ≤ hist.length then hist.drop 1 else hist) ++ [e]

/-- The history entry made from a lift record (R40, R47). -/
def entryOfRecord (r : LiftRecord) : HistoryEntry :=
  { id := some r.id, feeder := r.feeder, lifts := r.lifts, origin := .queue }

/-- The REPEAT copy of the presented pattern; of BLANK it has no pick, feeder 0 and every lift 0 (R40, R48). -/
def repeatEntry (hooks : Nat) (p : PickStore) : HistoryEntry :=
  match presentedEntry p with
  | some e => { e with origin := .repeated }
  | none => { id := none, feeder := 0, lifts := List.replicate hooks false, origin := .repeated }

/-- The oldest queue record, if it is READY, and the queue without it (R46 case 3). -/
def readyHead : List LiftRecord → Option (LiftRecord × List LiftRecord)
  | [] => none
  | r :: rest => if r.state = .ready then some (r, rest) else none

/-- A starved crossing (R48). -/
def starvedCrossing (s : State) : State :=
  raise .starved
    (s.setStore { s.store with history := appendHistory (repeatEntry (installed s) s.store) s.store.history })

/-- The four cases of a forward crossing in RUN or HALT (R46). -/
def forwardCase (s : State) : State :=
  if 0 < s.store.overshoot then s.setStore { s.store with overshoot := s.store.overshoot - 1 }
  else if 0 < s.store.rewind then s.setStore { s.store with rewind := s.store.rewind - 1 }
  else
    match readyHead s.store.queue with
    | some (r, rest) =>
      s.setStore { s.store with queue := rest, history := appendHistory (entryOfRecord r) s.store.history }
    | none => starvedCrossing s

/-- The woven-pick count one higher, wrapping from 4,294,967,295 to 0 (R50). -/
def countWoven (s : State) : State := s.setStore { s.store with woven := (s.store.woven + 1) % 4294967296 }

/-- A forward crossing taken by the store (R46, R50). -/
def storeForward (s : State) : State := requestPattern (countWoven (forwardCase s))

/-- The two cases of a reverse crossing in RUN or HALT (R49). -/
def reverseCase (s : State) : State :=
  if s.store.history ≠ [] ∧ s.store.rewind < s.store.history.length - 1 then
    s.setStore { s.store with rewind := s.store.rewind + 1 }
  else raise .rewindLimit (s.setStore { s.store with overshoot := min (s.store.overshoot + 1) 255 })

/-- A reverse crossing taken by the store (R49, R50). -/
def storeReverse (s : State) : State := requestPattern (reverseCase s)

/-- The store emptied (R55). -/
def emptyStore (s : State) : State :=
  s.setStore { queue := [], history := [], rewind := 0, overshoot := 0, woven := 0 }

end Sys2Proof.Machine
end

