-- ==== Sys2Proof/Machine/Weft.lean ====
section
/-! DEFINITION. The Weft and Input Unit: what the three pick events do on firing, and edges on the loom inputs
(R88-R97). -/

namespace Sys2Proof.Machine

/-- FEEDER fires: on a weft owner the feeder output takes the presented pattern's feeder (R89). -/
def fireFeeder (s : State) : State := if s.weft.owner then setFeeder (presentedFeeder s.store) s else s

/-- ARRIVAL_OPEN fires: on a weft owner the window is OPEN with the mark clear (R91). -/
def fireArrivalOpen (s : State) : State :=
  if s.weft.owner then s.setWeft { s.weft with window := true, mark := false } else s

/-- ARRIVAL_CLOSE fires: on a weft owner with the window OPEN it decides on the pick and closes the window (R91). -/
def fireArrivalClose (s : State) : State :=
  if s.weft.owner && s.weft.window then
    closeWindow (if !s.weft.mark && s.control.node == .run then raise .weftMissing s else s)
  else s

/-- A change of level of loom input 0 that matches the arrival edge, on a weft owner (R90). -/
def arrivalEdge (s : State) : State :=
  if weaving s then
    if s.weft.window then s.setWeft { s.weft with mark := true }
    else s.setWeft { s.weft with outside := min (s.weft.outside + 1) 65535 }
  else s

/-- The level of loom input `i` (0-7) as last seen set. -/
def setInputLevel (i : Fin 8) (level : Bool) (s : State) : State :=
  s.setWeft { s.weft with levels := s.weft.levels.set i level }

/-- A level seen on loom input 0 (R90). Only a change of level that matches the arrival edge on an owner does more. -/
def inputZero (level : Bool) (s : State) : State :=
  let s1 := setInputLevel 0 level s
  if s.weft.levels[(0 : Fin 8)] ≠ level ∧ s.weft.owner = true ∧ edgeMatches s.weft.arrivalEdge level = true then
    arrivalEdge s1
  else s1

/-- A selected edge of loom input `n + 1`: its input flag is set and INPUTn raised (R96). -/
def selectedEdge (n : Fin 7) (s : State) : State :=
  raise (.input n) (s.setWeft { s.weft with inputFlags := s.weft.inputFlags.set n true })

/-- A level seen on loom input `n + 1` (R96). -/
def inputLevel (n : Fin 7) (level : Bool) (s : State) : State :=
  let s1 := setInputLevel n.succ level s
  if s.weft.levels[n.succ] ≠ level ∧ s.weft.enables[n] = true ∧ edgeMatches s.weft.edges[n] level = true then
    selectedEdge n s1
  else s1

/-- The unit after RESET: output 0, window CLOSED, mark clear, outside count 0, input flags clear; the configuration and
the pins kept (R98). -/
def resetWeft (s : State) : State :=
  s.setWeft
    { s.weft with feeder := 0, window := false, mark := false, outside := 0, inputFlags := Vector.replicate 7 false }

end Sys2Proof.Machine
end

