-- ==== Sys2Proof/Machine/Tracker.lean ====
section
/-! DEFINITION. The Shaft Tracker: the angle, the index, the period and the advance, the boundary tracker and the firing
of the pick events (R59-R87). -/

namespace Sys2Proof.Machine

/-! ## Derived angles (R71, R83) -/

/-- The boundary b. -/
def boundary (t : Tracker) : Nat := angleSub t.selectAngle t.applied

/-- The antipode. -/
def antipode (t : Tracker) : Nat := angleAdd (boundary t) 512

/-- The reverse point. -/
def reversePoint (t : Tracker) : Nat := angleSub (boundary t) t.margin

/-- The angle of a pick event at a distance (R83). -/
def eventAngle (t : Tracker) (distance : Nat) : Nat := angleAdd t.selectAngle distance

/-! ## Period and advance (R66-R70) -/

/-- The target advance for a latency and an applied period (R69). -/
def targetAdvance (latency : Nat) : Option Nat → Nat
  | none => 0
  | some t => min ((latency * 1024 + t / 2) / t) 255

/-- The target advance computed again (R69). -/
def retarget (t : Tracker) : Tracker := { t with target := targetAdvance t.latency t.period }

/-- The applied period after a measured interval (R68). -/
def nextPeriod (measured : Nat) (period : Option Nat) : Option Nat :=
  if measured < 30000 ∨ 4000000 < measured then none
  else
    match period with
    | none => some measured
    | some t => if t / 512 < (if t ≤ measured then measured - t else t - measured) then some measured else some t

/-- Whether a forward index pass is due a measurement, with its stored capture (R67). -/
def dueCapture (t : Tracker) : Option Nat :=
  if t.lastPass = some .forward ∧ t.reverseSeen = false then t.capture else none

/-- The interval from a capture to the timer's value now (R67). -/
def interval (capture timer : Nat) : Nat := (timer + Config.timerWrap - capture) % Config.timerWrap

/-- The period measured at a forward index pass, if one is due (R67, R68). -/
def measurePeriod (t : Tracker) : Tracker :=
  match dueCapture t with
  | none => t
  | some c => retarget { t with period := nextPeriod (interval c t.timer) t.period }

/-- The period capture and the index history of an index pass (R66, R67). -/
def capturePass (d : Direction) (t : Tracker) : Tracker :=
  match d with
  | .forward => { measurePeriod t with capture := some t.timer, lastPass := some .forward, reverseSeen := false }
  | .reverse => { t with lastPass := some .reverse, reverseSeen := false }

/-- The applied advance moved towards the target by at most 4 counts (R70). -/
def slew (applied target : Nat) : Nat :=
  if applied ≤ target then min (applied + 4) target else max (applied - 4) target

/-- The applied advance after a crossing (R70). -/
def advanceAfter (d : Direction) (t : Tracker) : Nat :=
  match d with
  | .forward => slew t.applied t.target
  | .reverse => 0

/-! ## Crossings (R73-R79) -/

/-- What a crossing does outside the tracker's own LAST and advance: in RUN and HALT it drives the Pick Store, then arms or
disarms the pick events; a reverse one closes the arrival window (R45, R78 items 2 and 3, R85, R92). -/
def crossingEffects (d : Direction) (s : State) : State :=
  if weaving s then
    match d with
    | .forward => armEvents (storeForward s)
    | .reverse => closeWindow (disarmEvents (storeReverse s))
  else s

/-- LAST and the antipode flag after a crossing (R78 item 1). -/
def markCrossing (d : Direction) (s : State) : State :=
  s.setTracker { s.tracker with last := d, antipodeFlag := false }

/-- The applied advance moved at a crossing (R78 item 4). -/
def moveAdvance (d : Direction) (s : State) : State :=
  s.setTracker { s.tracker with applied := advanceAfter d s.tracker }

/-- A crossing, its actions in the order of R78. -/
def takeCrossing (d : Direction) (s : State) : State := moveAdvance d (crossingEffects d (markCrossing d s))

/-- Whether a crossing of a kind may be taken: LAST is of the other kind, or the antipode flag is set (R74, R75). -/
def crossingAllowed (d : Direction) (t : Tracker) : Bool := t.last != d || t.antipodeFlag

/-- The angle whose reaching, in a direction, is a crossing (R74, R75). -/
def crossingAngle (d : Direction) (t : Tracker) : Nat :=
  match d with
  | .forward => boundary t
  | .reverse => reversePoint t

/-- The antipode flag set when the counter stands on the antipode (R73). -/
def noteAntipode (t : Tracker) : Tracker := if t.counter = antipode t then { t with antipodeFlag := true } else t

/-- The boundary tracker examines a step that has brought the counter where it stands (R60 item 2, R73-R75). -/
def examineStep (d : Direction) (s : State) : State :=
  let s1 := s.setTracker (noteAntipode s.tracker)
  if s.tracker.counter = crossingAngle d s.tracker ∧ crossingAllowed d s1.tracker = true then takeCrossing d s1 else s1

/-! ## Pick events (R87) -/

/-- FEEDER offered a forward step. -/
def offerFeeder (s : State) : State :=
  if s.tracker.armed.feeder = true ∧ s.tracker.counter = eventAngle s.tracker s.tracker.feederDist then
    fireFeeder (s.setTracker { s.tracker with armed := { s.tracker.armed with feeder := false } })
  else s

/-- ARRIVAL_OPEN offered a forward step. -/
def offerArrivalOpen (s : State) : State :=
  if s.tracker.armed.arrivalOpen = true ∧ s.tracker.counter = eventAngle s.tracker s.tracker.openDist then
    fireArrivalOpen (s.setTracker { s.tracker with armed := { s.tracker.armed with arrivalOpen := false } })
  else s

/-- ARRIVAL_CLOSE offered a forward step. -/
def offerArrivalClose (s : State) : State :=
  if s.tracker.armed.arrivalClose = true ∧ s.tracker.counter = eventAngle s.tracker s.tracker.closeDist then
    fireArrivalClose (s.setTracker { s.tracker with armed := { s.tracker.armed with arrivalClose := false } })
  else s

/-- A forward step offered to the armed pick events (R60 item 3, R87). -/
def offerEvents (s : State) : State := offerArrivalClose (offerArrivalOpen (offerFeeder s))

/-! ## Steps -/

/-- The counter one count on, in a direction (R59). -/
def countStep (d : Direction) (c : Nat) : Nat :=
  match d with
  | .forward => angleAdd c 1
  | .reverse => angleSub c 1

/-- What a counted step in a direction does while ANGLE_VALID is set (R60 items 2 and 3). -/
def followStep (d : Direction) (s : State) : State :=
  match d with
  | .forward => offerEvents (examineStep .forward s)
  | .reverse => examineStep .reverse s

/-- The counter moved. -/
def setCounter (c : Nat) (s : State) : State := s.setTracker { s.tracker with counter := c }

/-- A forward correction of `n` counts, each a forward step for the boundary tracker and the pick events (R62). -/
def correctForward : Nat → State → State
  | 0, s => s
  | n + 1, s => correctForward n (followStep .forward (setCounter (countStep .forward s.tracker.counter) s))

/-- The implied value of an index pass (R61). -/
def impliedCounter : Direction → Nat
  | .forward => 0
  | .reverse => 1023

/-- The deviation at an index pass, in -512..511 (R61). -/
def deviation (counter implied : Nat) : Int :=
  let m : Int := ((counter : Int) - (implied : Int)) % 1024
  if 512 ≤ m then m - 1024 else m

/-- The counter brought to the implied value at a pass with a deviation (R62). -/
def correctCounter (d : Direction) (dev : Int) (s : State) : State :=
  if dev < 0 then correctForward dev.natAbs s
  else if 0 < dev then setCounter (impliedCounter d) s
  else s

/-- An index pass while ANGLE_VALID is set: SLIP is judged, then the counter is corrected (R62). -/
def judgeIndex (d : Direction) (s : State) : State :=
  let dev := deviation s.tracker.counter (impliedCounter d)
  correctCounter d dev (if 3 ≤ dev.natAbs then raise .slip s else s)

/-- An index pass while ANGLE_VALID is clear: the counter is set, ANGLE_VALID becomes set and the boundary tracker takes its
revalidated state (R63, R77). -/
def revalidate (d : Direction) (s : State) : State :=
  s.setTracker
    { s.tracker with counter := impliedCounter d, angleValid := true, last := .forward, antipodeFlag := true }

/-- An index pass (R61-R64, R66, R67). The correction comes before the capture (DEDUCED, log entry 8). -/
def indexPass (d : Direction) (s : State) : State :=
  let s1 := if s.tracker.angleValid then judgeIndex d s else revalidate d s
  s1.setTracker (capturePass d { s1.tracker with net := 0 })

/-- The angle is lost: INDEX_LOST raised, ANGLE_VALID clear, pick events disarmed, the arrival window closed without a
decision, the net step count 0 (R64, R86, R92). -/
def loseIndex (s : State) : State :=
  closeWindow (disarmEvents (raise .indexLost (s.setTracker { s.tracker with angleValid := false, net := 0 })))

/-- The net step count after a step (R64). -/
def netAfter (d : Direction) (net : Int) : Int :=
  match d with
  | .forward => net + 1
  | .reverse => net - 1

/-- The index history's mark after a step that is not an index pass (R67). -/
def noteReverse (d : Direction) (t : Tracker) : Tracker :=
  match d with
  | .forward => t
  | .reverse => { t with reverseSeen := true }

/-- A step that is not an index pass: the net step count changes while ANGLE_VALID is set, is held at 0 while it is clear,
and loses the index at a magnitude of 1,100 (R64, R67). -/
def plainStep (d : Direction) (s : State) : State :=
  let t := noteReverse d s.tracker
  if t.angleValid then
    if Config.indexLostAt ≤ (netAfter d t.net).natAbs then loseIndex (s.setTracker t)
    else s.setTracker { t with net := netAfter d t.net }
  else s.setTracker { t with net := 0 }

/-- One encoder step, its effects in the order of R60. -/
def encoderStepEffects (d : Direction) (z : Bool) (s : State) : State :=
  let s1 := s.setTracker { s.tracker with counter := countStep d s.tracker.counter, direction := d }
  let s2 := if s1.tracker.angleValid then followStep d s1 else s1
  if z then indexPass d s2 else plainStep d s2

/-- The encoder lines come to new levels: a step, or no step when the change does not follow the cycle (R59, R60). -/
def encoderLines (a b z : Bool) (s : State) : State :=
  let s1 := s.setTracker { s.tracker with lines := { a := a, b := b, z := z } }
  match quadratureStep s.tracker.lines a b with
  | some d => encoderStepEffects d z s1
  | none => s1

/-- The stored capture expires (R66). -/
def expireCapture (s : State) : State := s.setTracker { s.tracker with capture := none }

/-- The tracker after RESET: the counter, the direction, the timer, the pins and the configuration are kept (R81). -/
def resetTracker (s : State) : State :=
  s.setTracker
    { s.tracker with
      angleValid := false, net := 0, lastPass := none, reverseSeen := false, capture := none, period := none, target := 0,
      applied := 0, last := .forward, antipodeFlag := true,
      armed := { feeder := false, arrivalOpen := false, arrivalClose := false } }

end Sys2Proof.Machine
end

