-- ==== Sys2Proof/Machine/Control.lean ====
section
/-! DEFINITION. Run control, the commands that clear or release something, RESET and power-on (R53, R122, R130, R135-R140,
R149, R190-R192). -/

namespace Sys2Proof.Machine

/-- What executing a command gives: the state after it, the outcome and the reply before any cut (R164, R182). -/
structure Result where
  state : State
  outcome : OutcomeCode
  reply : List Byte

/-- A refusal that changes nothing and has an empty reply (R182). -/
def refuse (o : OutcomeCode) (s : State) : Result := { state := s, outcome := o, reply := [] }

/-- Outcome ACCEPTED with an empty reply. -/
def accept (s : State) : Result := { state := s, outcome := .accepted, reply := [] }

/-- RUN (R136). -/
def cmdRun (s : State) : Result :=
  if s.control.node = .idle ∧ s.tracker.angleValid = true ∧ 0 < s.tables.width ∧ anyPresent s = true then
    accept (setNode .run s)
  else refuse .badState s

/-- RESUME (R138). -/
def cmdResume (s : State) : Result :=
  if s.control.node = .halt ∧ stopHold s = false then accept (setNode .run s) else refuse .badState s

/-- Entry to IDLE from RUN or HALT (R139, R98, R110). -/
def enterIdle (s : State) : State := idleEntryShift (setFeeder 0 (closeWindow (disarmEvents (setNode .idle s))))

/-- IDLE (R139): in IDLE it changes nothing. -/
def cmdIdle (s : State) : Result := accept (if weaving s then enterIdle s else s)

/-- DISCARD QUEUE (R190): the reply is the number of records removed. -/
def cmdDiscard (expected : Nat) (s : State) : Result :=
  if s.control.node = .run then refuse .badState s
  else
    { state := (discardWork s).setAdmission { expected := expected, lastAccepted := none }, outcome := .accepted,
      reply := [byteOf s.store.queue.length] }

/-- CLEAR HISTORY (R53). -/
def cmdClearHistory (s : State) : Result :=
  if s.control.node = .idle then
    accept (s.setStore { s.store with history := [], rewind := 0, overshoot := 0 })
  else refuse .badState s

/-- The kinds named cleared; WEFT_MISSING also clears the arrival-outside count (R149, R93). -/
def clearEvents (kinds : List Nat) (s : State) : State :=
  let s1 := s.setControl { s.control with events := clearNamedEvents kinds s.control.events }
  if (kindNumber .weftMissing).val ∈ kinds then s1.setWeft { s1.weft with outside := 0 } else s1

/-- CLEAR EVENTS (R149). -/
def cmdClearEvents (kinds : List Byte) (s : State) : Result :=
  if kinds.all (fun b => b.toNat ≤ 25) then accept (clearEvents (kinds.map BitVec.toNat) s) else refuse .range s

/-- CLEAR FAULT MAP (R122). -/
def cmdClearFaultMap (s : State) : Result :=
  if s.control.node = .run then refuse .badState s else accept (clearMap s)

/-- RELEASE MODULE for a chain and a module number within range (R130 checks 2 to 4). -/
def releaseAt (c : Fin 6) (k : Nat) (s : State) : Result :=
  if k < moduleCount s.selector.chains[c] then
    match moduleRecord s c k with
    | none => refuse .notFound s
    | some r => if r.state = .latched then accept (releaseModule c k s) else refuse .badState s
  else refuse .notFound s

/-- RELEASE MODULE (R130). -/
def cmdRelease (chain module : Nat) (s : State) : Result :=
  if h : chain < 6 then if module ≤ 127 then releaseAt ⟨chain, h⟩ module s else refuse .range s
  else refuse .range s

/-! ## RESET and power-on -/

/-- Hook Health at RESET: the map and the records emptied, the rest time kept (R133). -/
def resetHealth (s : State) : State :=
  s.setHealth { s.health with faultMap := [], overflow := 0, modules := Vector.replicate 6 [] }

/-- Run Control and the Event Unit at RESET: INIT, flags and counts cleared, levels kept (R153). -/
def resetControl (s : State) : State :=
  s.setControl { node := .init, events := clearAllEvents s.control.events }

/-- RESET, over all the blocks (R191). -/
def resetNode (s : State) : State :=
  resetControl
    (resetHealth
      (beginSizing (resetWeft (resetTracker (resetAdmission (emptyStore (abandonWork (resetRowCounters (dropLoad s)))))))))

/-- RESET (R191): ACCEPTED in every node state. -/
def cmdReset (s : State) : Result := accept (resetNode s)

/-- Power-on (R192): every power-on value. The levels of the input pins are the outside's, and the magnets keep the last
latch until the flush (R116). -/
def powerOnNode (s : State) : State :=
  { State.reset with
    tracker := { State.reset.tracker with lines := s.tracker.lines },
    weft := { State.reset.weft with levels := s.weft.levels },
    selector := { State.reset.selector with latch := s.selector.latch },
    draws := s.draws,
    pending := s.pending }

end Sys2Proof.Machine
end

