-- ==== Sys2Proof/Machine/Configure.lean ====
section
/-! DEFINITION. CONFIGURE: the parameters, what each takes and does, and the reply (R14, R72, R83, R88, R90, R95, R97,
R127, R144, R183). -/

namespace Sys2Proof.Machine

/-- What a parameter does with a value: the outcome and the state after it. -/
structure Setting where
  outcome : OutcomeCode
  state : State

/-- A value refused with RANGE; the parameter keeps its value. -/
def outOfRange (s : State) : Setting := { outcome := .range, state := s }

/-- A value taken. -/
def taken (s : State) : Setting := { outcome := .accepted, state := s }

/-- A timing value taken at the nearer limit (R183): CLAMPED when it had to be brought there. -/
def clampedOutcome (lo hi v : Nat) : OutcomeCode := if clamp lo hi v = v then .accepted else .clamped

/-- Design width D (R14). -/
def setDesignWidth (v : Nat) (s : State) : Setting :=
  if v ≤ 16384 then taken (s.setTables { s.tables with width := v }) else outOfRange s

/-- Select angle (R72). -/
def setSelectAngle (v : Nat) (s : State) : Setting :=
  if v ≤ 1023 then taken (s.setTracker { s.tracker with selectAngle := v }) else outOfRange s

/-- Select latency L; the target is computed again (R69, R72). -/
def setSelectLatency (v : Nat) (s : State) : Setting :=
  { outcome := clampedOutcome 0 10000 v,
    state := s.setTracker (retarget { s.tracker with latency := clamp 0 10000 v }) }

/-- Reverse margin (R72). -/
def setReverseMargin (v : Nat) (s : State) : Setting :=
  { outcome := clampedOutcome 4 64 v, state := s.setTracker { s.tracker with margin := clamp 4 64 v } }

/-- A pick-event distance lies in its range (R83). -/
def distanceInRange (v : Nat) : Bool := decide (32 ≤ v ∧ v ≤ 736)

/-- FEEDER distance (R83). -/
def setFeederDistance (v : Nat) (s : State) : Setting :=
  if distanceInRange v then taken (s.setTracker { s.tracker with feederDist := v }) else outOfRange s

/-- ARRIVAL_OPEN distance, below the ARRIVAL_CLOSE distance (R83). -/
def setOpenDistance (v : Nat) (s : State) : Setting :=
  if distanceInRange v = true ∧ v < s.tracker.closeDist then taken (s.setTracker { s.tracker with openDist := v })
  else outOfRange s

/-- ARRIVAL_CLOSE distance, above the ARRIVAL_OPEN distance (R83). -/
def setCloseDistance (v : Nat) (s : State) : Setting :=
  if distanceInRange v = true ∧ s.tracker.openDist < v then taken (s.setTracker { s.tracker with closeDist := v })
  else outOfRange s

/-- Weft-owner flag; a change from 1 to 0 zeroes the feeder output and closes the window without a decision (R88). -/
def setWeftOwner (v : Nat) (s : State) : Setting :=
  match v with
  | 0 =>
    let s1 := s.setWeft { s.weft with owner := false }
    taken (if s.weft.owner then setFeeder 0 (closeWindow s1) else s1)
  | 1 => taken (s.setWeft { s.weft with owner := true })
  | _ => outOfRange s

/-- Arrival edge of loom input 0 (R90). -/
def setArrivalEdge (v : Nat) (s : State) : Setting :=
  match edgeOfValue v with
  | some e => taken (s.setWeft { s.weft with arrivalEdge := e })
  | none => outOfRange s

/-- Enable of input `n + 1`; 0 also clears its input flag (R95, R97). -/
def setInputEnable (n : Fin 7) (v : Nat) (s : State) : Setting :=
  match v with
  | 0 =>
    taken
      (s.setWeft
        { s.weft with enables := s.weft.enables.set n false, inputFlags := s.weft.inputFlags.set n false })
  | 1 => taken (s.setWeft { s.weft with enables := s.weft.enables.set n true })
  | _ => outOfRange s

/-- Edge of input `n + 1` (R95). -/
def setInputEdge (n : Fin 7) (v : Nat) (s : State) : Setting :=
  match edgeOfValue v with
  | some e => taken (s.setWeft { s.weft with edges := s.weft.edges.set n e })
  | none => outOfRange s

/-- Action level of an event kind; a fixed kind keeps its level (R144). -/
def setActionLevel (k : Fin 26) (v : Nat) (s : State) : Setting :=
  match levelOfValue v with
  | some l =>
    if levelFixed k then outOfRange s
    else
      taken
        (s.setControl { s.control with events := s.control.events.set k { s.control.events[k] with level := l } })
  | none => outOfRange s

/-- Rest time (R127). -/
def setRestTime (v : Nat) (s : State) : Setting :=
  { outcome := clampedOutcome 20 500 v, state := s.setHealth { s.health with restTime := clamp 20 500 v } }

/-- The input a CONFIGURE index names: 1-7 (R168). -/
def inputOfIndex (i : Nat) : Option (Fin 7) := if h : 1 ≤ i ∧ i ≤ 7 then some ⟨i - 1, by omega⟩ else none

/-- The event kind a CONFIGURE index names: 0-25 (R168). -/
def kindOfIndex (i : Nat) : Option (Fin 26) := if h : i < 26 then some ⟨i, h⟩ else none

/-- A parameter with its index resolved (R183). -/
inductive Target where
  | plain (p : Parameter)
  | enable (n : Fin 7)
  | edge (n : Fin 7)
  | level (k : Fin 26)
  deriving DecidableEq, Repr

/-- The parameter and index of a CONFIGURE resolved; none for an index out of range (R168, R183). -/
def targetOf (p : Parameter) (index : Nat) : Option Target :=
  match p with
  | .inputEnable => (inputOfIndex index).map .enable
  | .inputEdge => (inputOfIndex index).map .edge
  | .actionLevel => (kindOfIndex index).map .level
  | p => some (.plain p)

/-- A parameter that CONFIGURE takes in IDLE only (R183). -/
def idleOnly : Parameter → Bool
  | .designWidth => true
  | .selectAngle => true
  | .feederDistance => true
  | .arrivalOpenDistance => true
  | .arrivalCloseDistance => true
  | _ => false

/-- The value a parameter without an index holds (R183). -/
def plainHeld (p : Parameter) (s : State) : Nat :=
  match p with
  | .designWidth => s.tables.width
  | .selectAngle => s.tracker.selectAngle
  | .selectLatency => s.tracker.latency
  | .reverseMargin => s.tracker.margin
  | .feederDistance => s.tracker.feederDist
  | .arrivalOpenDistance => s.tracker.openDist
  | .arrivalCloseDistance => s.tracker.closeDist
  | .weftOwner => bitOf s.weft.owner
  | .arrivalEdge => edgeCode s.weft.arrivalEdge
  | .restTime => s.health.restTime
  | .inputEnable => 0
  | .inputEdge => 0
  | .actionLevel => 0

/-- The value a parameter holds, as CONFIGURE codes it (R183, R168). -/
def heldValue (t : Target) (s : State) : Nat :=
  match t with
  | .plain p => plainHeld p s
  | .enable n => bitOf s.weft.enables[n]
  | .edge n => edgeCode s.weft.edges[n]
  | .level k => levelCode s.control.events[k].level

/-- A value given to a parameter without an index. -/
def setPlain (p : Parameter) (v : Nat) (s : State) : Setting :=
  match p with
  | .designWidth => setDesignWidth v s
  | .selectAngle => setSelectAngle v s
  | .selectLatency => setSelectLatency v s
  | .reverseMargin => setReverseMargin v s
  | .feederDistance => setFeederDistance v s
  | .arrivalOpenDistance => setOpenDistance v s
  | .arrivalCloseDistance => setCloseDistance v s
  | .weftOwner => setWeftOwner v s
  | .arrivalEdge => setArrivalEdge v s
  | .restTime => setRestTime v s
  | .inputEnable => outOfRange s
  | .inputEdge => outOfRange s
  | .actionLevel => outOfRange s

/-- A value given to a parameter. -/
def setTarget (t : Target) (v : Nat) (s : State) : Setting :=
  match t with
  | .plain p => setPlain p v s
  | .enable n => setInputEnable n v s
  | .edge n => setInputEdge n v s
  | .level k => setActionLevel k v s

/-- The state check and then the value, in IDLE, RUN or HALT (R183). -/
def judgeSetting (p : Parameter) (t : Target) (v : Nat) (s : State) : Setting :=
  if idleOnly p = true ∧ weaving s = true then { outcome := .badState, state := s } else setTarget t v s

/-- CONFIGURE of a known parameter in IDLE, RUN or HALT (R183): the reply is the parameter, the index and the value held
after the command; for an index out of range the parameter and the index. -/
def cmdConfigure (p : Parameter) (index : Byte) (v : Half) (s : State) : Result :=
  match targetOf p index.toNat with
  | none => { state := s, outcome := .range, reply := [parameterCode p, index] }
  | some t =>
    let r := judgeSetting p t v.toNat s
    { state := r.state, outcome := r.outcome, reply := [parameterCode p, index] ++ be16 (heldValue t r.state) }

/-- CONFIGURE of an unknown parameter (R183). -/
def cmdConfigureUnknown (code index : Byte) (s : State) : Result :=
  { state := s, outcome := .range, reply := [code, index] }

end Sys2Proof.Machine
end

