-- ==== Sys2Proof/Machine/Loads.lean ====
section
/-! DEFINITION. The four LOAD commands (R184-R187). -/

namespace Sys2Proof.Machine

/-- The checks of LOAD OPEN in order (R184); the table when every check passes. -/
def judgeOpen (table first count : Byte) (s : State) : OutcomeCode × Option TableId :=
  if s.load ≠ none then (.busy, none)
  else
    match tableOfCode table with
    | none => (.range, none)
    | some t =>
      if loadRangeOk t first.toNat count.toNat = false then (.range, none)
      else if s.engine.backlog ≠ [] then (.busy, none)
      else if t = .weave ∧ s.store.queue ≠ [] then (.busy, none)
      else (.accepted, some t)

/-- LOAD OPEN (R184): the reply is the remaining count. -/
def cmdLoadOpen (table first count : Byte) (s : State) : Result :=
  match judgeOpen table first count s with
  | (o, none) => refuse o s
  | (o, some t) =>
    { state :=
        (openTarget t first.toNat count.toNat s).setLoad
          (some { table := t, first := first.toNat, count := count.toNat, remaining := count.toNat, sequence := 0 }),
      outcome := o, reply := [count] }

/-- The reply of LOAD DATA: remaining count and expected sequence number, both 0 with no transaction open (R185, R168). -/
def loadReply : Option Load → List Byte
  | none => [0, 0]
  | some ld => [byteOf ld.remaining, byteOf ld.sequence]

/-- The entries of a LOAD DATA, if check 3 of R185 passes. -/
def dataEntries (ld : Load) (count : Nat) (bytes : List Byte) : Option LoadEntries :=
  if 1 ≤ count ∧ count ≤ maxEntries ld.table ∧ count ≤ ld.remaining then decodeEntries ld.table count bytes else none

/-- Entries taken by the open transaction (R185). -/
def takeEntries (ld : Load) (count : Nat) (e : LoadEntries) (s : State) : State :=
  (s.setTables (writeEntries (ld.first + (ld.count - ld.remaining)) e s.tables)).setLoad
    (some { ld with remaining := ld.remaining - count, sequence := ld.sequence + 1 })

/-- LOAD DATA (R185). -/
def cmdLoadData (sequence count : Byte) (bytes : List Byte) (s : State) : Result :=
  match s.load with
  | none => { state := s, outcome := .badState, reply := loadReply none }
  | some ld =>
    if sequence.toNat ≠ ld.sequence then { state := s, outcome := .sequence, reply := loadReply (some ld) }
    else
      match dataEntries ld count.toNat bytes with
      | none => { state := s, outcome := .range, reply := loadReply (some ld) }
      | some e =>
        let s1 := takeEntries ld count.toNat e s
        { state := s1, outcome := .accepted, reply := loadReply s1.load }

/-- LOAD CLOSE (R186). -/
def cmdLoadClose (s : State) : Result :=
  match s.load with
  | none => refuse .badState s
  | some ld =>
    if ld.remaining ≠ 0 then { state := dropLoad s, outcome := .badState, reply := [byteOf ld.remaining] }
    else
      match checkLoad ld s.tables with
      | .pass => accept (dropLoad (makeUsable ld s))
      | .fail o index => { state := dropLoad s, outcome := o, reply := [byteOf index] }

/-- LOAD ABORT (R187). -/
def cmdLoadAbort (s : State) : Result :=
  match s.load with
  | none => refuse .badState s
  | some _ => accept (dropLoad s)

end Sys2Proof.Machine
end

