-- ==== Sys2Proof/Machine/Queries.lean ====
section
/-! DEFINITION. What each QUERY reports (R18, R58, R117, R134, R152, R188, R189; layouts of R168). -/

namespace Sys2Proof.Machine

/-- The flags byte of QUERY STATUS (R168). -/
def statusFlags (s : State) : Byte :=
  byteOf
    (bitOf s.tracker.angleValid + 2 * bitOf (attention s) + 4 * bitOf (stopHold s) + 8 * bitOf (inputAny s)
      + 16 * bitOf s.weft.owner)

/-- The load transaction as QUERY STATUS reports it (R168). -/
def statusLoad : Option Load → List Byte
  | none => [0, 0, 0, 0, 0]
  | some ld => [byteOf (tableCode ld.table), byteOf ld.first, byteOf ld.count, byteOf ld.remaining, byteOf ld.sequence]

/-- The code of a direction (R168). -/
def directionCode : Direction → Byte
  | .forward => 0
  | .reverse => 1

/-- QUERY STATUS (R189). The queue occupancy is the number of records held, EXPANDING and READY alike, as R36 has it; R33 says
that a READY transition is visible in it (DESIGN CHOICE, log entry 22). -/
def statusReply (s : State) : List Byte :=
  [byteOf (nodeCode s.control.node), statusFlags s] ++ statusLoad s.load ++ be16 s.tracker.counter
    ++ [directionCode s.tracker.direction, byteOf s.tracker.applied, byteOf s.tracker.target]
    ++ be32 (s.tracker.period.getD 4294967295)
    ++ [byteOf s.store.queue.length, byteOf s.store.history.length, byteOf s.store.rewind, byteOf s.store.overshoot]
    ++ be32 s.store.woven ++ be16 s.weft.outside

/-- One record of QUERY EVENTS (R168). The bits of its flags byte that the layout does not name are 0 (DESIGN CHOICE, log
entry 24). -/
def eventBytes (k : Fin 26) (e : EventRecord) : List Byte :=
  [byteOf (bitOf e.flag + 2 * bitOf (levelFixed k))] ++ be16 e.count ++ [byteOf (levelCode e.level)]

/-- QUERY EVENTS (R152). -/
def eventsReply (s : State) : List Byte :=
  (Vector.ofFn fun k : Fin 26 => eventBytes k s.control.events[k]).toList.flatten

/-- The code of a fault kind (R168). -/
def faultCode : FaultKind → Byte
  | .opened => 1
  | .shorted => 2

/-- One entry of QUERY FAULT MAP (R168). -/
def faultBytes (e : FaultEntry) : List Byte :=
  be16 e.hook ++ [faultCode e.kind] ++ be16 e.source.pick ++ [byteOf e.source.sub]

/-- QUERY FAULT MAP (R134). -/
def faultMapReply (s : State) : List Byte :=
  [byteOf s.health.faultMap.length] ++ be16 s.health.overflow ++ (s.health.faultMap.map faultBytes).flatten

/-- The code of a module state (R168). -/
def moduleCode : ModuleState → Byte
  | .active => 0
  | .resting _ => 1
  | .latched => 2
  | .lost => 3

/-- The rest time remaining, rounded up to whole ms; 0 unless RESTING (R134, R168). -/
def restLeft : ModuleState → Nat
  | .active => 0
  | .resting left => (left + 999) / 1000
  | .latched => 0
  | .lost => 0

/-- One module record of QUERY MODULES (R168). -/
def moduleBytes (r : ModuleRecord) : List Byte :=
  [moduleCode r.state, byteOf r.strikes, byteOf r.clean] ++ be16 (restLeft r.state)

/-- QUERY MODULES (R117, R134). -/
def modulesReply (s : State) : List Byte :=
  s.selector.chains.toList.map (fun c => byteOf (moduleCount c)) ++ be16 (installed s)
    ++ (s.health.modules.toList.flatten.map moduleBytes).flatten

/-- Byte `i` of a packed cell list (R168). The unused bits of the last byte, which a load does not look at, are written 0
(DESIGN CHOICE, log entry 24). -/
def cellByte (cells : List Bool) (i : Nat) : Byte :=
  byteOf ((List.range 8).foldl (fun acc j => 2 * acc + bitOf (cells.getD (8 * i + j) false)) 0)

/-- A cell list packed one bit a cell (R168). -/
def packCells (cells : List Bool) : List Byte := (List.range ((cells.length + 7) / 8)).map (cellByte cells)

/-- What a slot that holds geometry reports (R18, R168). -/
def geometryBytes (counter : Nat) (g : Geometry) : List Byte :=
  [byteOf g.w, byteOf g.h, byteOf g.start, byteOf counter] ++ be16 g.cells.length ++ packCells g.cells

/-- One slot of QUERY TABLE of WEAVE (R18, R168). -/
def weaveBytes (slot : WeaveSlot) (counter : Nat) : List Byte :=
  match slot with
  | .empty => [0, 0]
  | .loaded g => [1, 1] ++ geometryBytes counter g
  | .invalid none => [2, 0]
  | .invalid (some g) => [2, 1] ++ geometryBytes counter g

/-- The fields of a Code Map entry (R168). -/
def fieldBytes (f : CodeFields) : List Byte := [byteOf f.slot, byteOf f.invert, byteOf f.dx, byteOf f.dy]

/-- One entry of QUERY TABLE of CODEMAP (R18, R168). -/
def codeBytes : CodeEntry → List Byte
  | .unmapped none => [0, 0]
  | .unmapped (some f) => [0, 1] ++ fieldBytes f
  | .mapped f => [1, 1] ++ fieldBytes f

/-- One entry of QUERY TABLE of WEFT (R18, R168). -/
def weftBytes : WeftEntry → List Byte
  | .unmapped none => [0, 0]
  | .unmapped (some f) => [0, 1, byteOf f]
  | .mapped f => [1, 1, byteOf f]

/-- The byte of a direction (R168). -/
def tieDirectionByte : TieDirection → Byte
  | .asc => 0
  | .desc => 1
  | .unknown b => b

/-- The byte of a segment kind (R168). -/
def tieKindByte : TieKind → Byte
  | .figure => 0
  | .selvedge => 1
  | .void => 2
  | .unknown b => b

/-- One segment of QUERY TABLE of TIE; selvedge slot and invert are 0 unless SELVEDGE (R168). -/
def segmentBytes (g : Segment) : List Byte :=
  be16 g.h0 ++ be16 g.n ++ [tieDirectionByte g.direction] ++ be16 g.c0 ++ [byteOf g.e0, tieKindByte g.kind]
    ++ (match g.selvedge with
        | some (slot, invert) => [byteOf slot, byteOf invert]
        | none => [0, 0])

/-- The entries `first .. first + count - 1` of a table of bytes. -/
def rangeBytes {n : Nat} (first count : Nat) (v : Vector (List Byte) n) : List Byte :=
  ((v.toList.drop first).take count).flatten

/-- QUERY TABLE of a range that lies in the table (R18, R168). -/
def tableReply (t : TableId) (first count : Nat) (s : State) : List Byte :=
  match t with
  | .weave =>
    rangeBytes first count (Vector.ofFn fun i => weaveBytes s.tables.weaves[i] s.engine.rowCounters[i])
  | .codemap => rangeBytes first count (Vector.ofFn fun i => codeBytes s.tables.codes[i])
  | .tie =>
    [byteOf (bitOf (!s.tables.tieValid)), byteOf s.tables.tie.length]
      ++ (((s.tables.tie.drop first).take count).map segmentBytes).flatten
  | .weft => rangeBytes first count (Vector.ofFn fun i => weftBytes s.tables.wefts[i])

/-- One history entry of QUERY PICKS; absent fields are 0 (R58, R168). The bits of its flags byte that the layout does not
name are 0 (DESIGN CHOICE, log entry 24). -/
def historyBytes (e : HistoryEntry) : List Byte :=
  be16 ((e.id.map PickId.pick).getD 0)
    ++ [byteOf ((e.id.map PickId.sub).getD 0), byteOf (bitOf (e.origin == .repeated) + 2 * bitOf e.id.isNone),
        byteOf e.feeder]

/-- One queue record of QUERY PICKS (R58, R168). -/
def recordBytes (r : LiftRecord) : List Byte :=
  be16 r.id.pick ++ [byteOf r.id.sub, byteOf (bitOf (r.state == .ready)), byteOf r.feeder]

/-- QUERY PICKS: the history, then the queue (R58). -/
def picksReply (s : State) : List Byte :=
  [byteOf s.store.history.length, byteOf s.store.queue.length] ++ (s.store.history.map historyBytes).flatten
    ++ (s.store.queue.map recordBytes).flatten

/-- The range of a QUERY TABLE lies within the table (R188). -/
def queryRangeOk (t : TableId) (first count : Nat) : Bool :=
  match t with
  | .weave => first ≤ 15 && 1 ≤ count && first + count ≤ 16
  | .codemap => first ≤ 15 && 1 ≤ count && first + count ≤ 16
  | .tie => first ≤ 63 && 1 ≤ count && first + count ≤ 64
  | .weft => first ≤ 7 && 1 ≤ count && first + count ≤ 8

/-- A query answered: no state changes (R188). -/
def answer (reply : List Byte) (s : State) : Result := { state := s, outcome := .accepted, reply := reply }

/-- QUERY of a subject without a range (R188). -/
def cmdQuery (subject : Subject) (s : State) : Result :=
  match subject with
  | .status => answer (statusReply s) s
  | .events => answer (eventsReply s) s
  | .faultMap => answer (faultMapReply s) s
  | .modules => answer (modulesReply s) s
  | .picks => answer (picksReply s) s

/-- QUERY TABLE (R18, R188). -/
def cmdQueryTable (table first count : Byte) (s : State) : Result :=
  match tableOfCode table with
  | none => refuse .range s
  | some t =>
    if queryRangeOk t first.toNat count.toNat then answer (tableReply t first.toNat count.toNat s) s
    else refuse .range s

end Sys2Proof.Machine
end

