-- ==== Sys2Proof/Machine/Ring.lean ====
section
/-! DEFINITION. The Ring Port: executing a command, acting on a good frame by its kind, receiving and sending frames
(R154-R167, R182). -/

namespace Sys2Proof.Machine

/-! ## Executing a command (R182) -/

/-- A command's own checks and effect (R182 check 4). -/
def performCommand (c : Command) (s : State) : Result :=
  match c with
  | .configure p index v => cmdConfigure p index v s
  | .configureUnknown code index => cmdConfigureUnknown code index s
  | .loadOpen table first count => cmdLoadOpen table first count s
  | .loadData sequence count entries => cmdLoadData sequence count entries s
  | .loadClose => cmdLoadClose s
  | .loadAbort => cmdLoadAbort s
  | .run => cmdRun s
  | .resume => cmdResume s
  | .idle => cmdIdle s
  | .discardQueue expected => cmdDiscard expected.toNat s
  | .clearHistory => cmdClearHistory s
  | .clearEvents kinds => cmdClearEvents kinds s
  | .clearFaultMap => cmdClearFaultMap s
  | .releaseModule chain module => cmdRelease chain.toNat module.toNat s
  | .query subject _ => cmdQuery subject s
  | .queryTable _ table first count => cmdQueryTable table first count s
  | .queryUnknown _ _ => refuse .range s
  | .reset => cmdReset s

/-- RESET (R182 check 3). -/
def isReset : Command → Bool
  | .reset => true
  | _ => false

/-- A command executed, its checks in the order of R182. -/
def executeCommand (broadcast : Bool) (c : Option Command) (s : State) : Result :=
  match c with
  | none => refuse .range s
  | some c =>
    if broadcast = true ∧ (isQuery c || isLoad c) = true then refuse .range s
    else if s.control.node = .init ∧ (isQuery c || isReset c) = false then refuse .notReady s
    else performCommand c s

/-! ## Acting on a good frame (R160) -/

/-- What acting on a frame gives: the frame as the action left it, and the state. -/
structure Acted where
  frame : Frame
  state : State

/-- A frame forwarded unchanged, no state changed. -/
def forward (f : Frame) (s : State) : Acted := { frame := f, state := s }

/-- An addressed COMMAND turned into a RESPONSE: the reply cut to the reply space, the slot stamped, the CRC computed
afresh when the frame is written (R164). -/
def respond (n : Fin 4) (c : Option Command) (f : Frame) (r : Result) : Acted :=
  let space := replySpace c f.body.length
  { frame :=
      stampSlot n r.outcome (decide (space < r.reply.length)) r.state
        { f with kind := kindResponse, body := r.reply.take space },
    state := r.state }

/-- A broadcast COMMAND's slot stamped, its body unchanged (R166). -/
def stampBroadcast (n : Fin 4) (f : Frame) (r : Result) : Acted :=
  { frame := stampSlot n r.outcome false r.state f, state := r.state }

/-- A COMMAND frame whose body names `c` (R160, R164, R166). -/
def actCommand (f : Frame) (c : Option Command) (s : State) : Acted :=
  match s.port.number with
  | none => forward f s
  | some n =>
    if f.dest = destBroadcast then stampBroadcast n f (executeCommand true c s)
    else if f.dest.toNat = n.val then respond n c f (executeCommand false c s)
    else forward f s

/-- A DESIGN frame (R160, R163). -/
def actDesign (f : Frame) (s : State) : Acted :=
  match s.port.number with
  | none => forward f s
  | some n =>
    let o := judgeDesign f.body s
    let s1 := applyDesign o f.body s
    { frame := stampSlot n o false s1 f, state := s1 }

/-- The node takes a number, or becomes unnumbered (R161). -/
def setNumber (n : Option (Fin 4)) (s : State) : State := s.setPort { s.port with number := n }

/-- An ENUMERATE with its counter, in INIT or IDLE (R161). -/
def takeNumber (f : Frame) (counter : Byte) (rest : List Byte) (s : State) : Acted :=
  if h : counter.toNat < 4 then
    let s1 := setNumber (some ⟨counter.toNat, h⟩) s
    { frame := stampSlot ⟨counter.toNat, h⟩ .accepted false s1 { f with body := (counter + 1) :: rest }, state := s1 }
  else forward f (setNumber none s)

/-- An ENUMERATE frame (R161): an empty body is forwarded unchanged. -/
def actEnumerate (f : Frame) (s : State) : Acted :=
  match f.body with
  | [] => forward f s
  | counter :: rest =>
    if weaving s then
      match s.port.number with
      | some n => { frame := stampSlot n .badState false s f, state := s }
      | none => forward f s
    else takeNumber f counter rest s

/-- Acting on a good frame by its kind (R160). -/
def actFrame (f : Frame) (s : State) : Acted :=
  if f.kind = kindDesign then actDesign f s
  else if f.kind = kindCommand then actCommand f (decodeCommand f.body) s
  else if f.kind = kindEnumerate then actEnumerate f s
  else forward f s

/-- The state after an action, with the frame as the action left it kept for the outside to see (log entry 1). -/
def keepActed (a : Acted) : State := a.state.setPort { a.state.port with acted := some a.frame }

/-- A command row: the COMMAND frame that carries the command acts (log entry 1). -/
def deliver (h : Header) (c : Command) (pad : List Byte) (s : State) : State :=
  keepActed (actCommand (commandFrame h c pad) (some c) s)

/-- The frame of a kind that a DESIGN or ENUMERATE row brings. -/
def bodyFrame (kind : Byte) (h : Header) (body : List Byte) : Frame :=
  { kind := kind, dest := h.dest, tag := h.tag, slots := h.slots, body := body }

/-! ## Receiving (R154-R157) -/

/-- A frame store. -/
def getStore (p : RingPort) : StoreId → FrameStore
  | .A => p.storeA
  | .B => p.storeB

/-- A frame store set. -/
def putStore (i : StoreId) (x : FrameStore) (p : RingPort) : RingPort :=
  match i with
  | .A => { p with storeA := x }
  | .B => { p with storeB := x }

/-- One symbol into a FILLING store (R154, R156). -/
def storeSymbol (x : FrameStore) (y : LineSymbol) : FrameStore :=
  match x, y with
  | .filling bytes tooLong bad, .byte b =>
    if bytes.length < Config.storeBytes then .filling (bytes ++ [b]) tooLong bad else .filling bytes true bad
  | .filling bytes tooLong _, .error => .filling bytes tooLong true
  | x, _ => x

/-- The symbols received since the last delimiter: stored while RECEIVING, ignored otherwise (R154). -/
def receiveSymbols (symbols : List LineSymbol) (p : RingPort) : RingPort :=
  match p.receiver with
  | .receiving i => putStore i (symbols.foldl storeSymbol (getStore p i)) p
  | .waiting => p
  | .discarding => p

/-- A store becomes HELD with the bytes of a frame, behind those already HELD (R156, R158). -/
def holdFrame (i : StoreId) (bytes : List Byte) (p : RingPort) : RingPort :=
  { putStore i (.held bytes) p with heldOrder := p.heldOrder ++ [i] }

/-- The receiver WAITING and the reception timer stopped. -/
def stopReceiving (p : RingPort) : RingPort := { p with receiver := .waiting, rxTimer := none }

/-- A bad frame abandoned (R167). -/
def abandonFrame (i : StoreId) (r : AbandonReason) (bytes : List Byte) (s : State) : State :=
  let s1 := raise .frameAbandoned s
  s1.setPort (holdFrame i (frameBytes (abandonedFrame s1.port.number r bytes)) s1.port)

/-- A good frame acted on; its store becomes HELD with the frame as the action left it (R156). -/
def actGoodFrame (i : StoreId) (f : Frame) (s : State) : State :=
  let s1 := keepActed (actFrame f s)
  s1.setPort (holdFrame i (frameBytes (actFrame f s).frame) s1.port)

/-- The frame in a FILLING store ends: checked, and abandoned or acted on (R156). -/
def finishFrame (i : StoreId) (s : State) : State :=
  match getStore s.port i with
  | .filling bytes tooLong bad =>
    match checkFrame bytes tooLong bad with
    | .good f => actGoodFrame i f s
    | .bad r => abandonFrame i r bytes s
  | .free => s
  | .held _ => s
  | .sending _ => s

/-- An end delimiter (R154, R156). -/
def endDelimiter (s : State) : State :=
  match s.port.receiver with
  | .waiting => s
  | .discarding => s.setPort (stopReceiving s.port)
  | .receiving i => finishFrame i (s.setPort (stopReceiving s.port))

/-- The frame being received is marked with a line-code error (R154). -/
def markLineError (i : StoreId) (p : RingPort) : RingPort := putStore i (storeSymbol (getStore p i) .error) p

/-- A frame cut short by a start delimiter ends with a line-code error marked (R154). -/
def cutShort (s : State) : State :=
  match s.port.receiver with
  | .waiting => s
  | .discarding => s.setPort (stopReceiving s.port)
  | .receiving i => finishFrame i (s.setPort (markLineError i (stopReceiving s.port)))

/-- A FREE frame store, A before B when both are (log entry 9). -/
def freeStore (p : RingPort) : Option StoreId :=
  if p.storeA = .free then some .A else if p.storeB = .free then some .B else none

/-- A frame begins (R155): it takes a FREE store, or is discarded with RING_OVERFLOW. -/
def beginFrame (s : State) : State :=
  match freeStore s.port with
  | some i =>
    s.setPort
      { putStore i (.filling [] false false) s.port with receiver := .receiving i, rxTimer := some Config.receptionTime }
  | none =>
    raise .ringOverflow (s.setPort { s.port with receiver := .discarding, rxTimer := some Config.receptionTime })

/-- The reception timer expires (R157). -/
def expireReception (s : State) : State :=
  match s.port.receiver with
  | .waiting => s
  | .discarding => raise .linkTimeout (s.setPort (stopReceiving s.port))
  | .receiving i => raise .linkTimeout (s.setPort (putStore i .free (stopReceiving s.port)))

/-! ## Sending (R154, R158) -/

/-- A symbol of the line code as the transmitter sends it (R154). -/
inductive SentSymbol where
  | startDelimiter
  | byte (b : Byte)
  | endDelimiter
  | idle
  deriving DecidableEq, Repr

/-- What a frame is on the link: a start delimiter, its bytes, an end delimiter, and then the idle that stands at least once
between any two frames (R154, R158). -/
def sentSymbols (bytes : List Byte) : List SentSymbol :=
  .startDelimiter :: bytes.map .byte ++ [.endDelimiter, .idle]

/-- The bytes that a SENDING store sends. -/
def sendingBytes : FrameStore → Option (List Byte)
  | .sending bytes => some bytes
  | .free => none
  | .filling _ _ _ => none
  | .held _ => none

/-- RING OUT: the symbols of the frame being sent, first sent first; between frames idle, given here once and sent again and
again for as long as no frame is being sent (R154, R158, log entry 25). -/
def ringOut (p : RingPort) : List SentSymbol :=
  match (sendingBytes p.storeA).or (sendingBytes p.storeB) with
  | some bytes => sentSymbols bytes
  | none => [.idle]

/-- Whether a store is SENDING. -/
def isSending : FrameStore → Bool
  | .sending _ => true
  | .free => false
  | .filling _ _ _ => false
  | .held _ => false

/-- A HELD store becomes SENDING. -/
def sendStore : FrameStore → FrameStore
  | .held bytes => .sending bytes
  | x => x

/-- A SENDING store becomes FREE. -/
def sentStore : FrameStore → FrameStore
  | .sending _ => .free
  | x => x

/-- The transmitter is free (R158). -/
def transmitterFree (p : RingPort) : Bool := !isSending p.storeA && !isSending p.storeB

/-- The oldest HELD frame starts to be sent if the transmitter is free (R158). -/
def startSending (s : State) : State :=
  match s.port.heldOrder with
  | [] => s
  | i :: rest =>
    if transmitterFree s.port then
      s.setPort { putStore i (sendStore (getStore s.port i)) s.port with heldOrder := rest }
    else s

/-- The frame being sent has gone out, its end delimiter and the idle after it with it, so that the transmitter owes no idle
when its store is FREE (R154, R158, log entry 25). -/
def endSending (s : State) : State :=
  s.setPort { s.port with storeA := sentStore s.port.storeA, storeB := sentStore s.port.storeB }

end Sys2Proof.Machine
end

