-- ==== Sys2Proof/Machine/Clock.lean ====
section
/-! DEFINITION. One microsecond of time on an idle queue (log entry 3): the µs timer, the stored capture's expiry, the module
rest timers and the reception timer (R66, R127, R155, R157). -/

namespace Sys2Proof.Machine

/-- The µs timer moves on; a stored capture the timer comes round to expires (R66). -/
def tickTimer (t : Tracker) : Tracker :=
  let now := (t.timer + 1) % Config.timerWrap
  { t with timer := now, capture := if t.capture = some now then none else t.capture }

/-- A rest timer moves on; at its end the module returns to ACTIVE with its clean-shift count 0 (R127). -/
def tickModule (r : ModuleRecord) : ModuleRecord :=
  match r.state with
  | .resting left => if left ≤ 1 then { r with state := .active, clean := 0 } else { r with state := .resting (left - 1) }
  | .active => r
  | .latched => r
  | .lost => r

/-- Every rest timer moves on. -/
def tickHealth (h : Health) : Health :=
  { h with modules := Vector.ofFn fun c => h.modules[c].map tickModule }

/-- The reception timer moves on; at its end the reception times out (R155, R157). -/
def tickReception (s : State) : State :=
  match s.port.rxTimer with
  | none => s
  | some left => if left ≤ 1 then expireReception s else s.setPort { s.port with rxTimer := some (left - 1) }

/-- One microsecond. -/
def tick (s : State) : State :=
  tickReception ((s.setTracker (tickTimer s.tracker)).setHealth (tickHealth s.health))

end Sys2Proof.Machine
end

