-- ==== Sys2Proof/Machine/ConfigureCommands.lean ====
section
/-! DEFINITION. The meanings of the thirteen CONFIGURE rows: each a COMMAND frame that carries CONFIGURE of one parameter. -/

namespace Sys2Proof.Machine

/-- CONFIGURE_DESIGN_WIDTH (R14, R183). -/
def execConfigureDesignWidth (h : Header) (index : Byte) (value : Half) (pad : List Byte) (s : State) : Host.Outcome State Fault Refusal :=
  .next (deliver h (.configure .designWidth index value) pad s)

/-- CONFIGURE_SELECT_ANGLE (R72, R183). -/
def execConfigureSelectAngle (h : Header) (index : Byte) (value : Half) (pad : List Byte) (s : State) : Host.Outcome State Fault Refusal :=
  .next (deliver h (.configure .selectAngle index value) pad s)

/-- CONFIGURE_SELECT_LATENCY (R69, R72, R183). -/
def execConfigureSelectLatency (h : Header) (index : Byte) (value : Half) (pad : List Byte) (s : State) : Host.Outcome State Fault Refusal :=
  .next (deliver h (.configure .selectLatency index value) pad s)

/-- CONFIGURE_REVERSE_MARGIN (R72, R183). -/
def execConfigureReverseMargin (h : Header) (index : Byte) (value : Half) (pad : List Byte) (s : State) : Host.Outcome State Fault Refusal :=
  .next (deliver h (.configure .reverseMargin index value) pad s)

/-- CONFIGURE_FEEDER_DISTANCE (R83, R183). -/
def execConfigureFeederDistance (h : Header) (index : Byte) (value : Half) (pad : List Byte) (s : State) : Host.Outcome State Fault Refusal :=
  .next (deliver h (.configure .feederDistance index value) pad s)

/-- CONFIGURE_ARRIVAL_OPEN_DISTANCE (R83, R183). -/
def execConfigureArrivalOpenDistance (h : Header) (index : Byte) (value : Half) (pad : List Byte) (s : State) : Host.Outcome State Fault Refusal :=
  .next (deliver h (.configure .arrivalOpenDistance index value) pad s)

/-- CONFIGURE_ARRIVAL_CLOSE_DISTANCE (R83, R183). -/
def execConfigureArrivalCloseDistance (h : Header) (index : Byte) (value : Half) (pad : List Byte) (s : State) : Host.Outcome State Fault Refusal :=
  .next (deliver h (.configure .arrivalCloseDistance index value) pad s)

/-- CONFIGURE_WEFT_OWNER (R88, R183). -/
def execConfigureWeftOwner (h : Header) (index : Byte) (value : Half) (pad : List Byte) (s : State) : Host.Outcome State Fault Refusal :=
  .next (deliver h (.configure .weftOwner index value) pad s)

/-- CONFIGURE_ARRIVAL_EDGE (R90, R183). -/
def execConfigureArrivalEdge (h : Header) (index : Byte) (value : Half) (pad : List Byte) (s : State) : Host.Outcome State Fault Refusal :=
  .next (deliver h (.configure .arrivalEdge index value) pad s)

/-- CONFIGURE_INPUT_ENABLE (R95, R97, R183). -/
def execConfigureInputEnable (h : Header) (index : Byte) (value : Half) (pad : List Byte) (s : State) : Host.Outcome State Fault Refusal :=
  .next (deliver h (.configure .inputEnable index value) pad s)

/-- CONFIGURE_INPUT_EDGE (R95, R183). -/
def execConfigureInputEdge (h : Header) (index : Byte) (value : Half) (pad : List Byte) (s : State) : Host.Outcome State Fault Refusal :=
  .next (deliver h (.configure .inputEdge index value) pad s)

/-- CONFIGURE_ACTION_LEVEL (R144, R183). -/
def execConfigureActionLevel (h : Header) (index : Byte) (value : Half) (pad : List Byte) (s : State) : Host.Outcome State Fault Refusal :=
  .next (deliver h (.configure .actionLevel index value) pad s)

/-- CONFIGURE_REST_TIME (R127, R183). -/
def execConfigureRestTime (h : Header) (index : Byte) (value : Half) (pad : List Byte) (s : State) : Host.Outcome State Fault Refusal :=
  .next (deliver h (.configure .restTime index value) pad s)


end Sys2Proof.Machine
end

