-- ==== Sys2Proof/Machine/LoadCommands.lean ====
section
/-! DEFINITION. The meanings of the four LOAD rows. -/

namespace Sys2Proof.Machine

/-- LOAD_OPEN (R184). -/
def execLoadOpen (h : Header) (table first count : Byte) (pad : List Byte) (s : State) : Host.Outcome State Fault Refusal :=
  .next (deliver h (.loadOpen table first count) pad s)

/-- LOAD_DATA (R185); bytes after the counted entries are not looked at (R168). -/
def execLoadData (h : Header) (sequence count : Byte) (entries : List Byte) (s : State) : Host.Outcome State Fault Refusal :=
  .next (deliver h (.loadData sequence count entries) [] s)

/-- LOAD_CLOSE (R186). -/
def execLoadClose (h : Header) (pad : List Byte) (s : State) : Host.Outcome State Fault Refusal :=
  .next (deliver h .loadClose pad s)

/-- LOAD_ABORT (R187). -/
def execLoadAbort (h : Header) (pad : List Byte) (s : State) : Host.Outcome State Fault Refusal :=
  .next (deliver h .loadAbort pad s)


end Sys2Proof.Machine
end

