-- ==== Sys2Proof/Machine/LoomEvents.lean ====
section
/-! DEFINITION. The meanings of power-on and of the arrivals from the loom: encoder, index, capture, loom inputs. -/

namespace Sys2Proof.Machine

/-- POWER_ON (R192). -/
def execPowerOn (s : State) : Host.Outcome State Fault Refusal :=
  .next (powerOnNode s)

/-- ENCODER_STEP: the encoder lines come to new levels (R59, R60). -/
def execEncoderStep (a b z : Bool) (s : State) : Host.Outcome State Fault Refusal :=
  .next (encoderLines a b z s)

/-- INDEX_LOST as an arrival of its own (R64, log entry 5): while ANGLE_VALID is set the angle is lost; while it is clear
nothing happens. An ENCODER_STEP that brings the net step count to 1,100 does the same within its own step. -/
def execIndexLost (s : State) : Host.Outcome State Fault Refusal :=
  .next (if s.tracker.angleValid then loseIndex s else s)

/-- CAPTURE_EXPIRY (R66). -/
def execCaptureExpiry (s : State) : Host.Outcome State Fault Refusal :=
  .next (expireCapture s)

/-- LOOM_INPUT0_EDGE (R90). -/
def execLoomInput0Edge (level : Bool) (s : State) : Host.Outcome State Fault Refusal :=
  .next (inputZero level s)

/-- LOOM_INPUT_EDGE of input `n + 1` (R96). -/
def execLoomInputEdge (n : Fin 7) (level : Bool) (s : State) : Host.Outcome State Fault Refusal :=
  .next (inputLevel n level s)


end Sys2Proof.Machine
end

