-- ==== Sys2Proof/Machine/QueryCommands.lean ====
section
/-! DEFINITION. The meanings of the six QUERY rows. -/

namespace Sys2Proof.Machine

/-- QUERY_STATUS (R189). -/
def execQueryStatus (h : Header) (space : Half) (pad : List Byte) (s : State) : Host.Outcome State Fault Refusal :=
  .next (deliver h (.query .status space) pad s)

/-- QUERY_EVENTS (R152). -/
def execQueryEvents (h : Header) (space : Half) (pad : List Byte) (s : State) : Host.Outcome State Fault Refusal :=
  .next (deliver h (.query .events space) pad s)

/-- QUERY_FAULT_MAP (R134). -/
def execQueryFaultMap (h : Header) (space : Half) (pad : List Byte) (s : State) : Host.Outcome State Fault Refusal :=
  .next (deliver h (.query .faultMap space) pad s)

/-- QUERY_MODULES (R117, R134). -/
def execQueryModules (h : Header) (space : Half) (pad : List Byte) (s : State) : Host.Outcome State Fault Refusal :=
  .next (deliver h (.query .modules space) pad s)

/-- QUERY_TABLE (R18). -/
def execQueryTable (h : Header) (space : Half) (table first count : Byte) (pad : List Byte) (s : State) : Host.Outcome State Fault Refusal :=
  .next (deliver h (.queryTable space table first count) pad s)

/-- QUERY_PICKS (R58). -/
def execQueryPicks (h : Header) (space : Half) (pad : List Byte) (s : State) : Host.Outcome State Fault Refusal :=
  .next (deliver h (.query .picks space) pad s)


end Sys2Proof.Machine
end

