-- ==== Sys2Proof/Machine/RingEvents.lean ====
section
/-! DEFINITION. The meanings of the arrivals on the ring link, and of good DESIGN and ENUMERATE frames. -/

namespace Sys2Proof.Machine

/-- START_DELIMITER, after the symbols received before it (R154, R155): a frame being received is cut short, then a new
frame begins. -/
def execStartDelimiter (symbols : List LineSymbol) (s : State) : Host.Outcome State Fault Refusal :=
  .next (beginFrame (cutShort (s.setPort (receiveSymbols symbols s.port))))

/-- FRAME_END, after the symbols received before it (R154, R156). -/
def execFrameEnd (symbols : List LineSymbol) (s : State) : Host.Outcome State Fault Refusal :=
  .next (endDelimiter (s.setPort (receiveSymbols symbols s.port)))

/-- RECEPTION_TIMEOUT, after the symbols received before it (R157). -/
def execReceptionTimeout (symbols : List LineSymbol) (s : State) : Host.Outcome State Fault Refusal :=
  .next (expireReception (s.setPort (receiveSymbols symbols s.port)))

/-- TRANSMIT_START (R158). -/
def execTransmitStart (s : State) : Host.Outcome State Fault Refusal :=
  .next (startSending s)

/-- TRANSMIT_END (R158). -/
def execTransmitEnd (s : State) : Host.Outcome State Fault Refusal :=
  .next (endSending s)

/-- DESIGN_FRAME: a good DESIGN frame acts (R160, R163, R171). -/
def execDesignFrame (h : Header) (body : List Byte) (s : State) : Host.Outcome State Fault Refusal :=
  .next (keepActed (actDesign (bodyFrame kindDesign h body) s))

/-- ENUMERATE: a good ENUMERATE frame acts (R161). -/
def execEnumerate (h : Header) (body : List Byte) (s : State) : Host.Outcome State Fault Refusal :=
  .next (keepActed (actEnumerate (bodyFrame kindEnumerate h body) s))


end Sys2Proof.Machine
end

