-- ==== Sys2Proof/Machine/RunCommands.lean ====
section
/-! DEFINITION. The meanings of the run-control rows, the clearing rows, RELEASE_MODULE and RESET. -/

namespace Sys2Proof.Machine

/-- RUN (R136). -/
def execRun (h : Header) (pad : List Byte) (s : State) : Host.Outcome State Fault Refusal :=
  .next (deliver h .run pad s)

/-- RESUME (R138). -/
def execResume (h : Header) (pad : List Byte) (s : State) : Host.Outcome State Fault Refusal :=
  .next (deliver h .resume pad s)

/-- IDLE (R139). -/
def execIdle (h : Header) (pad : List Byte) (s : State) : Host.Outcome State Fault Refusal :=
  .next (deliver h .idle pad s)

/-- DISCARD_QUEUE (R190). -/
def execDiscardQueue (h : Header) (expected : Half) (pad : List Byte) (s : State) : Host.Outcome State Fault Refusal :=
  .next (deliver h (.discardQueue expected) pad s)

/-- CLEAR_HISTORY (R53). -/
def execClearHistory (h : Header) (pad : List Byte) (s : State) : Host.Outcome State Fault Refusal :=
  .next (deliver h .clearHistory pad s)

/-- CLEAR_EVENTS (R149). -/
def execClearEvents (h : Header) (kinds : List Byte) (pad : List Byte) (s : State) : Host.Outcome State Fault Refusal :=
  .next (deliver h (.clearEvents kinds) pad s)

/-- CLEAR_FAULT_MAP (R122). -/
def execClearFaultMap (h : Header) (pad : List Byte) (s : State) : Host.Outcome State Fault Refusal :=
  .next (deliver h .clearFaultMap pad s)

/-- RELEASE_MODULE (R130). -/
def execReleaseModule (h : Header) (chain module : Byte) (pad : List Byte) (s : State) : Host.Outcome State Fault Refusal :=
  .next (deliver h (.releaseModule chain module) pad s)

/-- RESET (R191). -/
def execReset (h : Header) (pad : List Byte) (s : State) : Host.Outcome State Fault Refusal :=
  .next (deliver h .reset pad s)


end Sys2Proof.Machine
end

