-- ==== Sys2Proof/Machine/UnitEvents.lean ====
section
/-! DEFINITION. The meanings of the ends of the node's own works: sizing passes, expansions, shifts, rests. -/

namespace Sys2Proof.Machine

/-- SIZING_FLUSH_END (R101). -/
def execSizingFlushEnd (s : State) : Host.Outcome State Fault Refusal :=
  .next (endFlush s)

/-- MARKER_PASS_END of a chain (R102). -/
def execMarkerPassEnd (chain : Fin 6) (p : Option (Fin 4096)) (s : State) : Host.Outcome State Fault Refusal :=
  .next (endMarkerPass chain p s)

/-- EXPANSION_RECORD_DONE (R33). -/
def execExpansionRecordDone (s : State) : Host.Outcome State Fault Refusal :=
  .next (recordDone s)

/-- SHIFT_END (R111). -/
def execShiftEnd (status : List (List StatusWord)) (s : State) : Host.Outcome State Fault Refusal :=
  .next (endShift status s)

/-- REST_TIMER_EXPIRY (R127). -/
def execRestTimerExpiry (chain : Fin 6) (module : Nat) (s : State) : Host.Outcome State Fault Refusal :=
  .next (expireRest chain module s)


end Sys2Proof.Machine
end

