-- ==== Sys2Proof/Machine/Dispatch.lean ====
section
/-! DEFINITION. The dispatch: one arm for each command, one direct call of its meaning. -/

namespace Sys2Proof.Machine

def exec (i : Instr) (s : State) : Host.Outcome State Fault Refusal :=
  match i with
  | .powerOn => Sys2Proof.Machine.execPowerOn s
  | .encoderStep a b z => Sys2Proof.Machine.execEncoderStep a b z s
  | .indexLost => Sys2Proof.Machine.execIndexLost s
  | .captureExpiry => Sys2Proof.Machine.execCaptureExpiry s
  | .loomInput0Edge level => Sys2Proof.Machine.execLoomInput0Edge level s
  | .loomInputEdge n level => Sys2Proof.Machine.execLoomInputEdge n level s
  | .startDelimiter symbols => Sys2Proof.Machine.execStartDelimiter symbols s
  | .frameEnd symbols => Sys2Proof.Machine.execFrameEnd symbols s
  | .receptionTimeout symbols => Sys2Proof.Machine.execReceptionTimeout symbols s
  | .transmitStart => Sys2Proof.Machine.execTransmitStart s
  | .transmitEnd => Sys2Proof.Machine.execTransmitEnd s
  | .designFrame h body => Sys2Proof.Machine.execDesignFrame h body s
  | .enumerate h body => Sys2Proof.Machine.execEnumerate h body s
  | .configureDesignWidth h index value pad => Sys2Proof.Machine.execConfigureDesignWidth h index value pad s
  | .configureSelectAngle h index value pad => Sys2Proof.Machine.execConfigureSelectAngle h index value pad s
  | .configureSelectLatency h index value pad => Sys2Proof.Machine.execConfigureSelectLatency h index value pad s
  | .configureReverseMargin h index value pad => Sys2Proof.Machine.execConfigureReverseMargin h index value pad s
  | .configureFeederDistance h index value pad => Sys2Proof.Machine.execConfigureFeederDistance h index value pad s
  | .configureArrivalOpenDistance h index value pad => Sys2Proof.Machine.execConfigureArrivalOpenDistance h index value pad s
  | .configureArrivalCloseDistance h index value pad => Sys2Proof.Machine.execConfigureArrivalCloseDistance h index value pad s
  | .configureWeftOwner h index value pad => Sys2Proof.Machine.execConfigureWeftOwner h index value pad s
  | .configureArrivalEdge h index value pad => Sys2Proof.Machine.execConfigureArrivalEdge h index value pad s
  | .configureInputEnable h index value pad => Sys2Proof.Machine.execConfigureInputEnable h index value pad s
  | .configureInputEdge h index value pad => Sys2Proof.Machine.execConfigureInputEdge h index value pad s
  | .configureActionLevel h index value pad => Sys2Proof.Machine.execConfigureActionLevel h index value pad s
  | .configureRestTime h index value pad => Sys2Proof.Machine.execConfigureRestTime h index value pad s
  | .loadOpen h table first count pad => Sys2Proof.Machine.execLoadOpen h table first count pad s
  | .loadData h sequence count entries => Sys2Proof.Machine.execLoadData h sequence count entries s
  | .loadClose h pad => Sys2Proof.Machine.execLoadClose h pad s
  | .loadAbort h pad => Sys2Proof.Machine.execLoadAbort h pad s
  | .run h pad => Sys2Proof.Machine.execRun h pad s
  | .resume h pad => Sys2Proof.Machine.execResume h pad s
  | .idle h pad => Sys2Proof.Machine.execIdle h pad s
  | .discardQueue h expected pad => Sys2Proof.Machine.execDiscardQueue h expected pad s
  | .clearHistory h pad => Sys2Proof.Machine.execClearHistory h pad s
  | .clearEvents h kinds pad => Sys2Proof.Machine.execClearEvents h kinds pad s
  | .clearFaultMap h pad => Sys2Proof.Machine.execClearFaultMap h pad s
  | .releaseModule h chain module pad => Sys2Proof.Machine.execReleaseModule h chain module pad s
  | .queryStatus h space pad => Sys2Proof.Machine.execQueryStatus h space pad s
  | .queryEvents h space pad => Sys2Proof.Machine.execQueryEvents h space pad s
  | .queryFaultMap h space pad => Sys2Proof.Machine.execQueryFaultMap h space pad s
  | .queryModules h space pad => Sys2Proof.Machine.execQueryModules h space pad s
  | .queryTable h space table first count pad => Sys2Proof.Machine.execQueryTable h space table first count pad s
  | .queryPicks h space pad => Sys2Proof.Machine.execQueryPicks h space pad s
  | .reset h pad => Sys2Proof.Machine.execReset h pad s
  | .sizingFlushEnd => Sys2Proof.Machine.execSizingFlushEnd s
  | .markerPassEnd chain p => Sys2Proof.Machine.execMarkerPassEnd chain p s
  | .expansionRecordDone => Sys2Proof.Machine.execExpansionRecordDone s
  | .shiftEnd status => Sys2Proof.Machine.execShiftEnd status s
  | .restTimerExpiry chain module => Sys2Proof.Machine.execRestTimerExpiry chain module s

end Sys2Proof.Machine
end

