-- ==== Sys2Proof/WellFormed.lean ====
section
/-! DEFINITION. Which commands the outside can send: the body of a frame holds at most 2,032 bytes, CLEAR EVENTS names at
most 255 kinds, a chain returns at most 128 status words for each of six chains, and a module number is below 128. -/

namespace Sys2Proof

/-- A frame body fits a frame (R168). -/
def bodyFits (body : List Byte) : Bool := body.length ≤ 2032

/-- The COMMAND body of a command with padding fits a frame (R168). -/
def commandFits (c : Machine.Command) (pad : List Byte) : Bool := bodyFits (Machine.commandBytes c ++ pad)

/-- The status returned in a shift: six chains of at most 128 modules (R100, R112). -/
def statusFits (status : List (List StatusWord)) : Bool := status.length ≤ 6 && status.all fun ws => ws.length ≤ 128

/-- A command the outside can send. -/
def wellFormed : Instr → Bool
  | .powerOn => true
  | .encoderStep _ _ _ => true
  | .indexLost => true
  | .captureExpiry => true
  | .loomInput0Edge _ => true
  | .loomInputEdge _ _ => true
  | .startDelimiter _ => true
  | .frameEnd _ => true
  | .receptionTimeout _ => true
  | .transmitStart => true
  | .transmitEnd => true
  | .designFrame _ body => bodyFits body
  | .enumerate _ body => bodyFits body
  | .configureDesignWidth _ index value pad => commandFits (.configure .designWidth index value) pad
  | .configureSelectAngle _ index value pad => commandFits (.configure .selectAngle index value) pad
  | .configureSelectLatency _ index value pad => commandFits (.configure .selectLatency index value) pad
  | .configureReverseMargin _ index value pad => commandFits (.configure .reverseMargin index value) pad
  | .configureFeederDistance _ index value pad => commandFits (.configure .feederDistance index value) pad
  | .configureArrivalOpenDistance _ index value pad => commandFits (.configure .arrivalOpenDistance index value) pad
  | .configureArrivalCloseDistance _ index value pad => commandFits (.configure .arrivalCloseDistance index value) pad
  | .configureWeftOwner _ index value pad => commandFits (.configure .weftOwner index value) pad
  | .configureArrivalEdge _ index value pad => commandFits (.configure .arrivalEdge index value) pad
  | .configureInputEnable _ index value pad => commandFits (.configure .inputEnable index value) pad
  | .configureInputEdge _ index value pad => commandFits (.configure .inputEdge index value) pad
  | .configureActionLevel _ index value pad => commandFits (.configure .actionLevel index value) pad
  | .configureRestTime _ index value pad => commandFits (.configure .restTime index value) pad
  | .loadOpen _ table first count pad => commandFits (.loadOpen table first count) pad
  | .loadData _ sequence count entries => commandFits (.loadData sequence count entries) []
  | .loadClose _ pad => commandFits .loadClose pad
  | .loadAbort _ pad => commandFits .loadAbort pad
  | .run _ pad => commandFits .run pad
  | .resume _ pad => commandFits .resume pad
  | .idle _ pad => commandFits .idle pad
  | .discardQueue _ expected pad => commandFits (.discardQueue expected) pad
  | .clearHistory _ pad => commandFits .clearHistory pad
  | .clearEvents _ kinds pad => decide (kinds.length ≤ 255) && commandFits (.clearEvents kinds) pad
  | .clearFaultMap _ pad => commandFits .clearFaultMap pad
  | .releaseModule _ chain module pad => commandFits (.releaseModule chain module) pad
  | .queryStatus _ space pad => commandFits (.query .status space) pad
  | .queryEvents _ space pad => commandFits (.query .events space) pad
  | .queryFaultMap _ space pad => commandFits (.query .faultMap space) pad
  | .queryModules _ space pad => commandFits (.query .modules space) pad
  | .queryTable _ space table first count pad => commandFits (.queryTable space table first count) pad
  | .queryPicks _ space pad => commandFits (.query .picks space) pad
  | .reset _ pad => commandFits .reset pad
  | .sizingFlushEnd => true
  | .markerPassEnd _ _ => true
  | .expansionRecordDone => true
  | .shiftEnd status => statusFits status
  | .restTimerExpiry _ module => module < 128

end Sys2Proof
end

