-- ==== Sys2Proof/Safety.lean ====
section
/-! DEFINITION. The terms of the claims: the laws that the spec states over the whole state, which command a ring row carries,
and what a command's acting leaves. -/

namespace Sys2Proof.Machine

/-! ## Laws over the state -/

/-- The law of the history, the rewind depth and the overshoot count (R41, R42), and the woven-pick count's range (R50).
With an empty history the bound on the rewind depth is 0. -/
abbrev StoreLaw (p : PickStore) : Prop :=
  p.history.length ≤ 16 ∧ p.rewind ≤ p.history.length - 1 ∧
    (p.overshoot ≠ 0 → p.rewind = p.history.length - 1) ∧ p.overshoot ≤ 255 ∧ p.woven < 4294967296

/-- One record follows another in the order of R38. -/
abbrev Follows (a b : LiftRecord) : Prop :=
  (b.id.pick = a.id.pick ∧ b.id.sub = a.id.sub + 1) ∨ (b.id.pick = (a.id.pick + 1) % 65536 ∧ b.id.sub = 0)

/-- The law of the Pick Queue: at most 8 records, every READY one nearer the oldest end than every EXPANDING one (R37),
in the order of R38, and the expected pick number one greater than the newest record's (R180). -/
abbrev QueueLaw (s : State) : Prop :=
  s.store.queue.length ≤ 8 ∧
    s.store.queue.Pairwise (fun a b => b.state = .ready → a.state = .ready) ∧
    s.store.queue.IsChain Follows ∧
    ∀ r ∈ s.store.queue.getLast?, s.admission.expected = (r.id.pick + 1) % 65536

/-- The law of the work in hand: at most two rows, none with no hook installed (R25), each with a record still to do, and as
many EXPANDING records as the rows have records to do (R20, R23, R24). -/
abbrev WorkLaw (s : State) : Prop :=
  s.engine.backlog.length ≤ 2 ∧ (installed s = 0 → s.engine.backlog = []) ∧ (∀ row ∈ s.engine.backlog, row.done < row.count) ∧
    (s.store.queue.filter fun r => r.state == .expanding).length
      = (s.engine.backlog.map fun row => row.count - row.done).sum

/-- While a load transaction is open the backlog is empty (R172), and while a WEAVE load is, the queue too (R22, R184). -/
abbrev LoadLaw (s : State) : Prop :=
  (s.load.isSome → s.engine.backlog = []) ∧ (s.load.map Load.table = some .weave → s.store.queue = [])

/-- Every LOADED slot holds a geometry that passed its checks, and its row counter lies in its range (R1, R4, R22). -/
abbrev CounterRange (s : State) : Prop :=
  ∀ i : Fin 16, ∀ g ∈ loadedGeometry s.tables.weaves[i],
    geometryPasses g = true ∧ s.engine.rowCounters[i] < g.h

/-- Record `j` of the queue holds for every LOADED slot the row whose distance to the row counter is the number of records
from it to the newest end (R21, R22). -/
abbrev SnapshotLaw (s : State) : Prop :=
  ∀ i : Fin 16, ∀ g ∈ loadedGeometry s.tables.weaves[i],
    ∀ j : Fin s.store.queue.length, ∃ y < g.h,
      s.store.queue[j].snapshot[i] = some y ∧
        s.engine.rowCounters[i] = (y + (s.store.queue.length - j)) % g.h

/-- The row-counter law of R22 and what it rests on. -/
def RowCounterLaw (s : State) : Prop := LoadLaw s ∧ CounterRange s ∧ SnapshotLaw s

/-- The law of the Hook Fault Map: at most 64 entries in increasing hook order, no hook twice, every hook installed, the
overflow count at most 65,535 (R118). -/
abbrev FaultMapLaw (s : State) : Prop :=
  s.health.faultMap.length ≤ 64 ∧ s.health.faultMap.Pairwise (fun a b => a.hook < b.hook) ∧
    (∀ e ∈ s.health.faultMap, e.hook < installed s) ∧ s.health.overflow ≤ 65535

/-- A module record's counts (R123, R125, R128): a module out of LATCHED and LOST has less than three strikes. -/
abbrev RecordLaw (r : ModuleRecord) : Prop :=
  r.strikes ≤ 3 ∧ r.clean ≤ 15 ∧ (isFailed r = false → r.strikes ≤ 2)

/-- One module record for each module of each PRESENT chain (R123). -/
abbrev ModuleLaw (s : State) : Prop :=
  ∀ c : Fin 6, s.health.modules[c].length = moduleCount s.selector.chains[c] ∧ ∀ r ∈ s.health.modules[c], RecordLaw r

/-- INIT is exactly the time of sizing: no chain, no shift, no record, no entry, no pick (R100, R116, R118, R123, R135,
R191). -/
abbrev InitLaw (s : State) : Prop :=
  (s.control.node = .init ↔ s.selector.sizing ≠ .done) ∧
    (s.control.node = .init →
      s.selector.chains = Vector.replicate 6 .absent ∧ s.selector.shift = none ∧ s.selector.pending = none ∧
        s.health.faultMap = [] ∧ s.health.modules = Vector.replicate 6 [] ∧ s.store.queue = [] ∧
        s.store.history = [] ∧ s.engine.backlog = [])

/-- A pending shift exists only while one is in flight, and under a pending ZERO shift a PATTERN shift is in flight
(R108). -/
abbrev ShiftLaw (x : Selector) : Prop :=
  (x.pending ≠ none → x.shift ≠ none) ∧ (x.pending = some .zero → x.shift.map Shift.kind = some .pattern)

/-- The ranges of the Shaft Tracker's counts and parameters (R59, R64, R66, R68-R70, R72, R83), and the target as R69 gives
it. -/
abbrev TrackerLaw (t : Tracker) : Prop :=
  t.counter < 1024 ∧ t.net.natAbs < 1100 ∧ (t.angleValid = false → t.net = 0) ∧ t.timer < 16777216 ∧
    (∀ c ∈ t.capture, c < 16777216) ∧ (∀ p ∈ t.period, 30000 ≤ p ∧ p ≤ 4000000) ∧
    t.target = targetAdvance t.latency t.period ∧ t.target ≤ 255 ∧ t.applied ≤ 255 ∧
    t.selectAngle ≤ 1023 ∧ t.latency ≤ 10000 ∧ (4 ≤ t.margin ∧ t.margin ≤ 64) ∧
    (32 ≤ t.feederDist ∧ t.feederDist ≤ 736) ∧ 32 ≤ t.openDist ∧ t.openDist < t.closeDist ∧ t.closeDist ≤ 736

/-- Some pick event is armed. -/
abbrev anyArmed (t : Tracker) : Prop := t.armed.feeder = true ∨ t.armed.arrivalOpen = true ∨ t.armed.arrivalClose = true

/-- Pick events are armed, and the window is OPEN, only in RUN and HALT with ANGLE_VALID set; the window only on a weft
owner, the mark only in an open window, a feeder only on an owner in RUN or HALT (R86, R88, R89, R92, R98). -/
abbrev WeftLaw (s : State) : Prop :=
  (anyArmed s.tracker → weaving s = true ∧ s.tracker.angleValid = true) ∧
    (s.weft.window = true → weaving s = true ∧ s.tracker.angleValid = true ∧ s.weft.owner = true) ∧
    (s.weft.mark = true → s.weft.window = true) ∧
    (s.weft.feeder ≠ 0 → weaving s = true ∧ s.weft.owner = true) ∧ s.weft.outside ≤ 65535

/-- An input flag is set only while its input is enabled (R97: a disable clears it, R96: an edge needs the enable). -/
abbrev InputLaw (w : WeftUnit) : Prop := ∀ n : Fin 7, w.inputFlags[n] = true → w.enables[n] = true

/-- A count is 0 exactly while its flag is clear, counts stop at 65,535, and a fixed kind keeps level STOP (R142-R145). -/
abbrev EventLaw (c : Control) : Prop :=
  ∀ k : Fin 26, (c.events[k].flag = true ↔ c.events[k].count ≠ 0) ∧ c.events[k].count ≤ 65535 ∧
    (levelFixed k = true → c.events[k].level = .stop)

/-- A frame store is HELD. -/
def isHeld : FrameStore → Bool
  | .held _ => true
  | .free => false
  | .filling _ _ _ => false
  | .sending _ => false

/-- A frame store is FILLING. -/
def isFilling : FrameStore → Bool
  | .filling _ _ _ => true
  | .free => false
  | .held _ => false
  | .sending _ => false

/-- The bytes a frame store holds. -/
def storedBytes : FrameStore → List Byte
  | .free => []
  | .filling bytes _ _ => bytes
  | .held bytes => bytes
  | .sending bytes => bytes

/-- A node without a number is always in INIT or IDLE (R160). -/
abbrev NumberLaw (s : State) : Prop := s.port.number = none → s.control.node = .init ∨ s.control.node = .idle

/-- The law of the frame stores: one is FILLING exactly while the receiver is RECEIVING into it, the HELD ones stand in the
sending order without repeats, at most one is SENDING, none holds more than 2,048 bytes, and the reception timer runs
exactly while the receiver is not WAITING (R154-R158). -/
abbrev PortLaw (p : RingPort) : Prop :=
  (∀ i : StoreId, isFilling (getStore p i) = true ↔ p.receiver = .receiving i) ∧
    (∀ i : StoreId, isHeld (getStore p i) = true ↔ i ∈ p.heldOrder) ∧ p.heldOrder.Nodup ∧
    ¬(isSending p.storeA = true ∧ isSending p.storeB = true) ∧
    (∀ i : StoreId, (storedBytes (getStore p i)).length ≤ 2048) ∧
    (p.rxTimer = none ↔ p.receiver = .waiting)

/-! ## Encoder steps and raises -/

/-- The change of the encoder lines from `l` to `a`, `b` is a forward step: both low, A high, both high, B high (R59). -/
abbrev forwardLines (l : Lines) (a b : Bool) : Prop := a = !l.b ∧ b = l.a

/-- The change of the encoder lines from `l` to `a`, `b` is a reverse step (R59). -/
abbrev reverseLines (l : Lines) (a b : Bool) : Prop := a = l.b ∧ b = !l.a

/-- The counter after a forward step (R59). -/
abbrev nextCount (t : Tracker) : Nat := (t.counter + 1) % 1024

/-- The counter after a reverse step (R59). -/
abbrev prevCount (t : Tracker) : Nat := (t.counter + 1023) % 1024

/-- A pick event that is armed stands at angle `c` (R83, R87). -/
abbrev eventAt (t : Tracker) (c : Nat) : Prop :=
  (t.armed.feeder = true ∧ c = eventAngle t t.feederDist) ∨
    (t.armed.arrivalOpen = true ∧ c = eventAngle t t.openDist) ∨
    (t.armed.arrivalClose = true ∧ c = eventAngle t t.closeDist)

/-- A crossing of the other kind came last, or the antipode has been passed since (R74, R75). -/
abbrev crossingDue (d : Direction) (t : Tracker) : Prop := t.last ≠ d ∨ t.antipodeFlag = true

/-- The events raised one after another. -/
def raiseAll : List EventKind → State → State
  | [], s => s
  | k :: ks, s => raiseAll ks (raise k s)

/-- The events that a request for a PATTERN shift raises, by the shift in flight and the pending shift (R109). -/
def requestEvents (x : Selector) : List EventKind :=
  match x.shift, x.pending with
  | none, _ => []
  | some _, some .pattern => [.selectOverrun]
  | some _, _ => [.selectLate]

/-- The Selector Interface after a request for a PATTERN shift that would be `sh` if it started now (R106, R109). -/
def requested (x : Selector) (sh : Shift) : Selector :=
  match x.shift with
  | some _ => { x with pending := some .pattern }
  | none =>
    if x.chains.toList.any isPresent then { x with shift := some sh } else { x with shift := none, latch := sh }

/-- The PATTERN shift of R104 for the picks of `p`, in the state `s`: forced to 0 for every hook listed or on a module that
is not ACTIVE. -/
def patternShift (p : PickStore) (s : State) : Shift :=
  { kind := .pattern, source := presentedSource p,
    values := (List.range (installed s)).map fun h =>
      !(s.health.faultMap.any fun e => e.hook == h)
        && (match s.health.modules.toList.flatten[h / 16]? with
            | some r => r.state == .active
            | none => false)
        && presentedLift p h }

/-- The entry a starved crossing appends: the presented pattern as a REPEAT, or a copy of BLANK (R40, R48). -/
def repeatOf (s : State) : HistoryEntry :=
  match presentedEntry s.store with
  | some e => { id := e.id, feeder := e.feeder, lifts := e.lifts, origin := .repeated }
  | none => { id := none, feeder := 0, lifts := List.replicate (installed s) false, origin := .repeated }

/-- The store after a forward crossing, by the four cases of R46, with one more woven pick (R50). -/
def storeAfterForward (s : State) : PickStore :=
  let woven := (s.store.woven + 1) % 4294967296
  let kept := s.store.history.drop (s.store.history.length + 1 - 16)
  if 0 < s.store.overshoot then { s.store with overshoot := s.store.overshoot - 1, woven := woven }
  else if 0 < s.store.rewind then { s.store with rewind := s.store.rewind - 1, woven := woven }
  else
    match s.store.queue with
    | [] => { s.store with history := kept ++ [repeatOf s], woven := woven }
    | r :: rest =>
      if r.state = .ready then
        { s.store with
          queue := rest,
          history := kept ++ [{ id := some r.id, feeder := r.feeder, lifts := r.lifts, origin := .queue }],
          woven := woven }
      else { s.store with history := kept ++ [repeatOf s], woven := woven }

/-- A forward crossing now is starved: case 4 of R46. -/
def isStarved (p : PickStore) : Bool :=
  p.overshoot == 0 && p.rewind == 0
    && (match p.queue with
        | [] => true
        | r :: _ => r.state == .expanding)

/-- A reverse crossing now goes beyond the history: case 2 of R49. -/
def isRewindLimit (p : PickStore) : Bool := !(!p.history.isEmpty && decide (p.rewind < p.history.length - 1))

/-- The store after a reverse crossing, by the two cases of R49. -/
def storeAfterReverse (p : PickStore) : PickStore :=
  if isRewindLimit p then { p with overshoot := min (p.overshoot + 1) 255 } else { p with rewind := p.rewind + 1 }

/-! ## What a ring row carries -/

/-- The header, the command and the padding of a row that is the acting of a COMMAND frame; none for the other rows. -/
def commandOf : Instr → Option (Header × Command × List Byte)
  | .configureDesignWidth h i v pad => some (h, .configure .designWidth i v, pad)
  | .configureSelectAngle h i v pad => some (h, .configure .selectAngle i v, pad)
  | .configureSelectLatency h i v pad => some (h, .configure .selectLatency i v, pad)
  | .configureReverseMargin h i v pad => some (h, .configure .reverseMargin i v, pad)
  | .configureFeederDistance h i v pad => some (h, .configure .feederDistance i v, pad)
  | .configureArrivalOpenDistance h i v pad => some (h, .configure .arrivalOpenDistance i v, pad)
  | .configureArrivalCloseDistance h i v pad => some (h, .configure .arrivalCloseDistance i v, pad)
  | .configureWeftOwner h i v pad => some (h, .configure .weftOwner i v, pad)
  | .configureArrivalEdge h i v pad => some (h, .configure .arrivalEdge i v, pad)
  | .configureInputEnable h i v pad => some (h, .configure .inputEnable i v, pad)
  | .configureInputEdge h i v pad => some (h, .configure .inputEdge i v, pad)
  | .configureActionLevel h i v pad => some (h, .configure .actionLevel i v, pad)
  | .configureRestTime h i v pad => some (h, .configure .restTime i v, pad)
  | .loadOpen h table first count pad => some (h, .loadOpen table first count, pad)
  | .loadData h sequence count entries => some (h, .loadData sequence count entries, [])
  | .loadClose h pad => some (h, .loadClose, pad)
  | .loadAbort h pad => some (h, .loadAbort, pad)
  | .run h pad => some (h, .run, pad)
  | .resume h pad => some (h, .resume, pad)
  | .idle h pad => some (h, .idle, pad)
  | .discardQueue h expected pad => some (h, .discardQueue expected, pad)
  | .clearHistory h pad => some (h, .clearHistory, pad)
  | .clearEvents h kinds pad => some (h, .clearEvents kinds, pad)
  | .clearFaultMap h pad => some (h, .clearFaultMap, pad)
  | .releaseModule h chain module pad => some (h, .releaseModule chain module, pad)
  | .queryStatus h space pad => some (h, .query .status space, pad)
  | .queryEvents h space pad => some (h, .query .events space, pad)
  | .queryFaultMap h space pad => some (h, .query .faultMap space, pad)
  | .queryModules h space pad => some (h, .query .modules space, pad)
  | .queryTable h space table first count pad => some (h, .queryTable space table first count, pad)
  | .queryPicks h space pad => some (h, .query .picks space, pad)
  | .reset h pad => some (h, .reset, pad)
  | .powerOn => none
  | .encoderStep _ _ _ => none
  | .indexLost => none
  | .captureExpiry => none
  | .loomInput0Edge _ => none
  | .loomInputEdge _ _ => none
  | .startDelimiter _ => none
  | .frameEnd _ => none
  | .receptionTimeout _ => none
  | .transmitStart => none
  | .transmitEnd => none
  | .designFrame _ _ => none
  | .enumerate _ _ => none
  | .sizingFlushEnd => none
  | .markerPassEnd _ _ => none
  | .expansionRecordDone => none
  | .shiftEnd _ => none
  | .restTimerExpiry _ _ => none

/-- The frame that a ring row of the table stands for; none for the rows that are no frame (log entry 1). -/
def frameOf : Instr → Option Frame
  | .designFrame h body => some (bodyFrame kindDesign h body)
  | .enumerate h body => some (bodyFrame kindEnumerate h body)
  | i => (commandOf i).map fun p => commandFrame p.1 p.2.1 p.2.2

/-- The bytes among line symbols; idle symbols and errors are none (R154). -/
def symbolBytes (symbols : List LineSymbol) : List Byte :=
  symbols.filterMap fun y =>
    match y with
    | .byte b => some b
    | .idle => none
    | .error => none

/-! ## What the acting of a COMMAND frame leaves -/

/-- The frame is addressed to node `n`, which is this node (R160, R164). -/
abbrev addressed (n : Fin 4) (h : Header) (s : State) : Prop := s.port.number = some n ∧ h.dest.toNat = n.val

/-- The frame makes this node, which is node `n`, execute its command: it is addressed to it or broadcast (R160, R164,
R166). -/
abbrev reaches (n : Fin 4) (h : Header) (s : State) : Prop :=
  s.port.number = some n ∧ (h.dest.toNat = n.val ∨ h.dest = 0xFF#8)

/-- The RESPONSE with a reply cut to a reply space and this node's slot stamped from the state `t` (R162, R164). -/
def responseFrame (n : Fin 4) (h : Header) (space : Nat) (o : OutcomeCode) (reply : List Byte) (t : State) : Frame :=
  { kind := 0x03#8, dest := h.dest, tag := h.tag, slots := h.slots.set n (slotWord o (decide (space < reply.length)) t),
    body := reply.take space }

/-- The broadcast COMMAND with its body unchanged and this node's slot stamped from the state `t` (R166). -/
def stampedBroadcast (n : Fin 4) (h : Header) (body : List Byte) (o : OutcomeCode) (t : State) : Frame :=
  { kind := 0x02#8, dest := h.dest, tag := h.tag, slots := h.slots.set n (slotWord o false t), body := body }

/-- The state `t`, with the frame an action left kept beside it (log entry 1). -/
def withActed (f : Frame) (t : State) : State := t.setPort { t.port with acted := some f }

/-- The state after a command other than a query, in a body `body`, was executed with this outcome, reply and state `t`:
broadcast, the frame goes on stamped; addressed, it is a RESPONSE whose reply space is the body length (R164, R166). -/
def answered (n : Fin 4) (h : Header) (body : List Byte) (o : OutcomeCode) (reply : List Byte) (t : State) : State :=
  withActed (if h.dest = 0xFF#8 then stampedBroadcast n h body o t else responseFrame n h body.length o reply t) t

end Sys2Proof.Machine
end

