-- ==== Sys2Proof/Certificates/Slice0/Obligations.lean ====
section
/-! DEFINITION. The statements for the provers. In a statement about a COMMAND row, `answered`, `withActed` and
`responseFrame` say what becomes of the frame; that the row keeps this frame in `port.acted` is the model's choice (log entry
1), and so these statements are derived. -/

open Sys2Proof Sys2Proof.Machine

/-! ## The queue of commands, reset and power-on -/

/-- The command at the front of the queue is executed with the queue's rest. That a queue of commands drives the block is the
model's (log entries 1 and 3). -/
def Obligations.StepRunsFrontCommand : Prop :=
  ∀ (c : Instr) (rest : List Instr) (s : State), step (s.setPending (c :: rest)) = exec c (s.setPending rest)

/-- On an empty queue one microsecond passes: the timer moves and wraps, the stored capture expires when the timer comes
round to it (R66), the rest timers run and end (R127), and a stopped reception timer stays stopped. A reception timer
that runs goes down beside all this, and at its end the reception times out: LINK_TIMEOUT is raised, the store is FREE and the
receiver WAITING (R155, R157). The model's choice (log entry 3). -/
def Obligations.EmptyQueueIsOneMicrosecond : Prop :=
  (∀ s : State, s.pending = [] → s.port.rxTimer = none →
    ∃ h : Health,
      step s =
          .next
            ((s.setTracker
                  { s.tracker with
                    timer := (s.tracker.timer + 1) % 16777216,
                    capture :=
                      if s.tracker.capture = some ((s.tracker.timer + 1) % 16777216) then none else s.tracker.capture }).setHealth
              h) ∧
        h.faultMap = s.health.faultMap ∧ h.overflow = s.health.overflow ∧ h.restTime = s.health.restTime ∧
        ∀ (c : Fin 6) (k : Nat),
          h.modules[c][k]? =
            (s.health.modules[c][k]?).map fun r =>
              match r.state with
              | .resting left =>
                if left ≤ 1 then { state := .active, strikes := r.strikes, clean := 0 }
                else { r with state := .resting (left - 1) }
              | _ => r) ∧
    ∀ (s : State) (left : Nat), s.pending = [] → s.port.rxTimer = some left →
      ∃ u, step (s.setPort { s.port with rxTimer := none }) = .next u ∧
        (1 < left → step s = .next (u.setPort { s.port with rxTimer := some (left - 1) })) ∧
        (left ≤ 1 →
          (s.port.receiver = .receiving .A →
              step s =
                .next
                  ((raise .linkTimeout u).setPort
                    { s.port with storeA := .free, receiver := .waiting, rxTimer := none })) ∧
            (s.port.receiver = .receiving .B →
              step s =
                .next
                  ((raise .linkTimeout u).setPort
                    { s.port with storeB := .free, receiver := .waiting, rxTimer := none })) ∧
            (s.port.receiver = .discarding →
              step s =
                .next ((raise .linkTimeout u).setPort { s.port with receiver := .waiting, rxTimer := none })))

/-- No command ends in a fault or a refusal: the model's reading of the spec (log entry 16). None touches the queue of the
commands that wait, and none lowers the count of free values drawn: both are the model's own fields (log entries 3 and 7). -/
def Obligations.EveryCommandAnswersNext : Prop :=
  ∀ (c : Instr) (s : State), ∃ t, exec c s = .next t ∧ t.pending = s.pending ∧ s.draws ≤ t.draws

/-- The values after power-on that the state tables of the chapters give; and POWER_ON, in every state, gives every field its
power-on value. What it keeps is not the spec's to reset: the levels on the input pins (log entry 6), the magnets until the
flush latch (R116, log entry 12), and the model's own two fields. -/
def Obligations.PowerOnValues : Prop :=
  (let s := State.reset
  (s.port.number = none ∧ s.port.receiver = .waiting ∧ s.port.storeA = .free ∧ s.port.storeB = .free ∧
      s.port.rxTimer = none) ∧
    (s.admission.expected = 0 ∧ s.admission.lastAccepted = none ∧ s.load = none) ∧
    ((∀ i : Fin 16, s.tables.weaves[i] = .empty ∧ s.tables.codes[i] = .unmapped none ∧ s.engine.rowCounters[i] = 0) ∧
      s.tables.tieValid = true ∧ s.tables.tie = [] ∧ (∀ i : Fin 8, s.tables.wefts[i] = .unmapped none) ∧
      s.tables.width = 0 ∧ s.engine.backlog = []) ∧
    (s.store.queue = [] ∧ s.store.history = [] ∧ s.store.rewind = 0 ∧ s.store.overshoot = 0 ∧ s.store.woven = 0) ∧
    (s.tracker.counter = 0 ∧ s.tracker.direction = .forward ∧ s.tracker.angleValid = false ∧ s.tracker.net = 0 ∧
      s.tracker.timer = 0 ∧ s.tracker.capture = none ∧ s.tracker.lastPass = none ∧ s.tracker.reverseSeen = false ∧
      s.tracker.period = none ∧ s.tracker.target = 0 ∧ s.tracker.applied = 0 ∧ s.tracker.last = .forward ∧ s.tracker.antipodeFlag = true ∧
      ¬anyArmed s.tracker ∧ s.tracker.selectAngle = 0 ∧ s.tracker.latency = 0 ∧ s.tracker.margin = 16 ∧
      s.tracker.feederDist = 128 ∧ s.tracker.openDist = 320 ∧ s.tracker.closeDist = 640) ∧
    (s.weft.feeder = 0 ∧ s.weft.window = false ∧ s.weft.mark = false ∧ s.weft.outside = 0 ∧ s.weft.owner = false ∧
      s.weft.arrivalEdge = .rise ∧
      ∀ n : Fin 7, s.weft.inputFlags[n] = false ∧ s.weft.enables[n] = false ∧ s.weft.edges[n] = .rise) ∧
    ((∀ c : Fin 6, s.selector.chains[c] = .absent ∧ s.health.modules[c] = []) ∧ s.selector.sizing = .flush ∧
      s.selector.shift = none ∧ s.selector.pending = none ∧ s.health.faultMap = [] ∧ s.health.overflow = 0 ∧
      s.health.restTime = 100 ∧ installed s = 0) ∧
    (s.control.node = .init ∧ stopRequest s = true ∧ attention s = false ∧
      ∀ k : Fin 26, s.control.events[k] = { flag := false, count := 0, level := defaultLevel k })) ∧
    (∀ s : State,
    ∃ t, exec .powerOn s = .next t ∧
      t.port = State.reset.port ∧ t.admission = State.reset.admission ∧ t.load = none ∧ t.tables = State.reset.tables ∧
      t.engine = State.reset.engine ∧ t.store = State.reset.store ∧
      t.tracker = { State.reset.tracker with lines := s.tracker.lines } ∧
      t.weft = { State.reset.weft with levels := s.weft.levels } ∧
      t.selector = { State.reset.selector with latch := s.selector.latch } ∧
      t.health = State.reset.health ∧ t.control = State.reset.control ∧ t.draws = s.draws ∧ t.pending = s.pending)


/-- Every law of Safety.lean holds right after power-on. -/
def Obligations.LawsHoldAtPowerOn : Prop :=
  let s := State.reset
  StoreLaw s.store ∧ QueueLaw s ∧ WorkLaw s ∧ RowCounterLaw s ∧ FaultMapLaw s ∧ ModuleLaw s ∧ InitLaw s ∧
    ShiftLaw s.selector ∧ TrackerLaw s.tracker ∧ WeftLaw s ∧ InputLaw s.weft ∧ EventLaw s.control ∧ PortLaw s.port ∧
    NumberLaw s

/-! ## The Shaft Tracker -/

/-- A change of the encoder lines that is no step of the cycle changes nothing but the levels seen; a step while ANGLE_VALID
is clear and ENC Z is not asserted moves the counter and the direction, holds the net step count at 0, and a reverse one
sets the reverse-step mark (R59, R60, R64, R65, R67). With the angle valid, a step that reaches neither its crossing angle
nor an armed pick event and loses no index moves the counter, the direction and the net step count, sets the antipode flag
on the antipode, and changes nothing else (R73). A step onto the crossing angle of its own direction is no crossing while
the latest crossing was of the same direction and the antipode flag is clear: it moves the counter, the direction and the
net step count and changes nothing else, whatever is armed (R74, R75). The boundary is the select angle less the applied
advance, the reverse point the boundary less the reverse margin, and a pick event's angle the select angle and its distance,
each modulo 1024 (R71, R83). -/
def Obligations.PlainEncoderSteps : Prop :=
  (∀ t : Tracker, TrackerLaw t →
    boundary t = (t.selectAngle + 1024 - t.applied) % 1024 ∧
      reversePoint t = (boundary t + 1024 - t.margin) % 1024 ∧
      ∀ d : Nat, eventAngle t d = (t.selectAngle + d) % 1024) ∧
  (∀ (a b z : Bool) (s : State),
    (¬forwardLines s.tracker.lines a b ∧ ¬reverseLines s.tracker.lines a b →
        exec (.encoderStep a b z) s = .next (s.setTracker { s.tracker with lines := ⟨a, b, z⟩ })) ∧
      (s.tracker.angleValid = false ∧ z = false ∧ forwardLines s.tracker.lines a b →
        exec (.encoderStep a b z) s =
          .next
            (s.setTracker
              { s.tracker with
                lines := ⟨a, b, z⟩, counter := nextCount s.tracker, direction := .forward, net := 0 })) ∧
      (s.tracker.angleValid = false ∧ z = false ∧ reverseLines s.tracker.lines a b →
        exec (.encoderStep a b z) s =
          .next
            (s.setTracker
              { s.tracker with
                lines := ⟨a, b, z⟩, counter := prevCount s.tracker, direction := .reverse, net := 0,
                reverseSeen := true }))) ∧
    (∀ (a b : Bool) (s : State), s.tracker.angleValid = true →
    (forwardLines s.tracker.lines a b → nextCount s.tracker ≠ boundary s.tracker →
        ¬eventAt s.tracker (nextCount s.tracker) → (s.tracker.net + 1).natAbs < 1100 →
        exec (.encoderStep a b false) s =
          .next
            (s.setTracker
              { s.tracker with
                lines := ⟨a, b, false⟩, counter := nextCount s.tracker, direction := .forward, net := s.tracker.net + 1,
                antipodeFlag :=
                  if nextCount s.tracker = (boundary s.tracker + 512) % 1024 then true else s.tracker.antipodeFlag })) ∧
      (reverseLines s.tracker.lines a b → prevCount s.tracker ≠ reversePoint s.tracker →
        (s.tracker.net - 1).natAbs < 1100 →
        exec (.encoderStep a b false) s =
          .next
            (s.setTracker
              { s.tracker with
                lines := ⟨a, b, false⟩, counter := prevCount s.tracker, direction := .reverse, net := s.tracker.net - 1,
                reverseSeen := true,
                antipodeFlag :=
                  if prevCount s.tracker = (boundary s.tracker + 512) % 1024 then true else s.tracker.antipodeFlag }))) ∧
    ∀ (a b : Bool) (s : State), TrackerLaw s.tracker → s.tracker.angleValid = true →
      (forwardLines s.tracker.lines a b → nextCount s.tracker = boundary s.tracker →
          s.tracker.last = .forward → s.tracker.antipodeFlag = false → (s.tracker.net + 1).natAbs < 1100 →
          exec (.encoderStep a b false) s =
            .next
              (s.setTracker
                { s.tracker with
                  lines := ⟨a, b, false⟩, counter := boundary s.tracker, direction := .forward,
                  net := s.tracker.net + 1 })) ∧
        (reverseLines s.tracker.lines a b → prevCount s.tracker = reversePoint s.tracker →
          s.tracker.last = .reverse → s.tracker.antipodeFlag = false → (s.tracker.net - 1).natAbs < 1100 →
          exec (.encoderStep a b false) s =
            .next
              (s.setTracker
                { s.tracker with
                  lines := ⟨a, b, false⟩, counter := reversePoint s.tracker, direction := .reverse,
                  net := s.tracker.net - 1, reverseSeen := true }))


/-- A forward crossing in RUN or HALT: the store moves by the four cases of R46, the woven-pick count rises, STARVED is
raised when it is starved, a PATTERN shift of the pattern presented afterwards is requested (R104, R109), the pick events
are armed (R85), and the applied advance moves by at most 4 counts (R70). Nothing else changes. -/
def Obligations.ForwardCrossingWeaves : Prop :=
  ∀ (a b : Bool) (s : State), weaving s = true → TrackerLaw s.tracker → StoreLaw s.store →
    s.tracker.angleValid = true → forwardLines s.tracker.lines a b → nextCount s.tracker = boundary s.tracker →
    crossingDue .forward s.tracker → (s.tracker.net + 1).natAbs < 1100 →
    ∃ t, exec (.encoderStep a b false) s = .next t ∧
      t.store = storeAfterForward s ∧
      t.tracker =
        { s.tracker with
          lines := ⟨a, b, false⟩, counter := boundary s.tracker, direction := .forward, net := s.tracker.net + 1,
          last := .forward, antipodeFlag := false, armed := ⟨true, true, true⟩,
          applied :=
            if s.tracker.applied ≤ s.tracker.target then min (s.tracker.applied + 4) s.tracker.target
            else max (s.tracker.applied - 4) s.tracker.target } ∧
      t.selector = requested s.selector (patternShift (storeAfterForward s) s) ∧
      t.control =
        (raiseAll ((if isStarved s.store then [.starved] else []) ++ requestEvents s.selector) s).control ∧
      t.port = s.port ∧ t.admission = s.admission ∧ t.load = s.load ∧ t.tables = s.tables ∧ t.engine = s.engine ∧
      t.weft = s.weft ∧ t.health = s.health ∧ t.draws = s.draws ∧ t.pending = s.pending

/-- A reverse crossing in RUN or HALT: the store moves by the two cases of R49, REWIND_LIMIT is raised beyond the history,
a PATTERN shift is requested, the pick events are disarmed (R85, R86), the arrival window closes without a decision (R92)
and the applied advance becomes 0 (R70). Nothing else changes. The presented pattern is the history entry with as many newer
entries behind it as the rewind depth, and BLANK with an empty history: no pick, feeder 0 and every lift 0 (R43). -/
def Obligations.ReverseCrossingRewinds : Prop :=
  (∀ p : PickStore,
    (∀ (before after : List HistoryEntry) (e : HistoryEntry), p.history = before ++ e :: after →
        after.length = p.rewind →
        presentedEntry p = some e ∧ presentedSource p = e.id ∧ presentedFeeder p = e.feeder ∧
          ∀ h : Nat, presentedLift p h = (e.lifts[h]?).getD false) ∧
      (p.history = [] →
        presentedEntry p = none ∧ presentedSource p = none ∧ presentedFeeder p = 0 ∧
          ∀ h : Nat, presentedLift p h = false)) ∧
  ∀ (a b : Bool) (s : State), weaving s = true → s.tracker.angleValid = true → reverseLines s.tracker.lines a b →
    prevCount s.tracker = reversePoint s.tracker → crossingDue .reverse s.tracker → (s.tracker.net - 1).natAbs < 1100 →
    ∃ t, exec (.encoderStep a b false) s = .next t ∧
      t.store = storeAfterReverse s.store ∧
      t.tracker =
        { s.tracker with
          lines := ⟨a, b, false⟩, counter := reversePoint s.tracker, direction := .reverse, net := s.tracker.net - 1,
          reverseSeen := true, last := .reverse, antipodeFlag := false, armed := ⟨false, false, false⟩, applied := 0 } ∧
      t.weft = { s.weft with window := false, mark := false } ∧
      t.selector = requested s.selector (patternShift (storeAfterReverse s.store) s) ∧
      t.control =
        (raiseAll ((if isRewindLimit s.store then [.rewindLimit] else []) ++ requestEvents s.selector) s).control ∧
      t.port = s.port ∧ t.admission = s.admission ∧ t.load = s.load ∧ t.tables = s.tables ∧ t.engine = s.engine ∧
      t.health = s.health ∧ t.draws = s.draws ∧ t.pending = s.pending

/-- In INIT and IDLE a crossing changes the tracker's own state alone: no store, no shift, no event, nothing armed (R45,
R79, R85). -/
def Obligations.CrossingOutsideWeaving : Prop :=
  ∀ (a b : Bool) (s : State), weaving s = false → ¬anyArmed s.tracker → s.tracker.angleValid = true →
    (forwardLines s.tracker.lines a b → nextCount s.tracker = boundary s.tracker → crossingDue .forward s.tracker →
        (s.tracker.net + 1).natAbs < 1100 →
        exec (.encoderStep a b false) s =
          .next
            (s.setTracker
              { s.tracker with
                lines := ⟨a, b, false⟩, counter := boundary s.tracker, direction := .forward, net := s.tracker.net + 1,
                last := .forward, antipodeFlag := false,
                applied :=
                  if s.tracker.applied ≤ s.tracker.target then min (s.tracker.applied + 4) s.tracker.target
                  else max (s.tracker.applied - 4) s.tracker.target })) ∧
      (reverseLines s.tracker.lines a b → prevCount s.tracker = reversePoint s.tracker →
        crossingDue .reverse s.tracker → (s.tracker.net - 1).natAbs < 1100 →
        exec (.encoderStep a b false) s =
          .next
            (s.setTracker
              { s.tracker with
                lines := ⟨a, b, false⟩, counter := reversePoint s.tracker, direction := .reverse,
                net := s.tracker.net - 1, reverseSeen := true, last := .reverse, antipodeFlag := false, applied := 0 }))

/-- At a forward step that is no crossing each armed pick event whose angle is reached fires once: FEEDER sets a weft owner's
feeder output, ARRIVAL_OPEN opens its window with the mark clear, ARRIVAL_CLOSE closes it and raises WEFT_MISSING in RUN
when the mark is clear (R87, R89, R91). Of the outputs FEEDER 1-8 the one whose number the feeder output holds is active and
the others are not (R89). Nothing else changes but the step itself. -/
def Obligations.PickEventsFire : Prop :=
  ∀ (a b : Bool) (s : State), TrackerLaw s.tracker → s.tracker.angleValid = true → forwardLines s.tracker.lines a b →
    nextCount s.tracker ≠ boundary s.tracker → (s.tracker.net + 1).natAbs < 1100 →
    let c := nextCount s.tracker
    let feeder := s.tracker.armed.feeder && decide (c = eventAngle s.tracker s.tracker.feederDist)
    let opens := s.tracker.armed.arrivalOpen && decide (c = eventAngle s.tracker s.tracker.openDist)
    let closes := s.tracker.armed.arrivalClose && decide (c = eventAngle s.tracker s.tracker.closeDist)
    ∃ t, exec (.encoderStep a b false) s = .next t ∧
      t.tracker =
        { s.tracker with
          lines := ⟨a, b, false⟩, counter := c, direction := .forward, net := s.tracker.net + 1,
          antipodeFlag := if c = (boundary s.tracker + 512) % 1024 then true else s.tracker.antipodeFlag,
          armed :=
            ⟨s.tracker.armed.feeder && !feeder, s.tracker.armed.arrivalOpen && !opens,
              s.tracker.armed.arrivalClose && !closes⟩ } ∧
      t.weft =
        (if s.weft.owner then
          { s.weft with
            feeder := if feeder then presentedFeeder s.store else s.weft.feeder,
            window := opens || (s.weft.window && !closes),
            mark := s.weft.mark && !opens && !(closes && s.weft.window) }
        else s.weft) ∧
      (∀ n : Fin 8, (feederOutputs t)[n] = decide (t.weft.feeder = n.val + 1)) ∧
      t.control =
        (if s.weft.owner = true ∧ closes = true ∧ s.weft.window = true ∧ s.weft.mark = false ∧ s.control.node = .run then
          (raise .weftMissing s).control
        else s.control) ∧
      t.port = s.port ∧ t.admission = s.admission ∧ t.load = s.load ∧ t.tables = s.tables ∧ t.engine = s.engine ∧
      t.store = s.store ∧ t.selector = s.selector ∧ t.health = s.health ∧ t.draws = s.draws ∧ t.pending = s.pending

/-- The first index pass without a valid angle sets the counter in one move, validates the angle, puts the boundary tracker
in its revalidated state and makes the period capture; a forward one that is due a measurement also sets the applied period
and the target advance (R68, R69); nothing is crossed, fired or raised (R63, R66, R67, R77). -/
def Obligations.RevalidationSetsTheAngle : Prop :=
  ∀ (a b : Bool) (s : State), s.tracker.angleValid = false →
    (forwardLines s.tracker.lines a b →
        s.tracker.capture = none ∨ s.tracker.lastPass ≠ some .forward ∨ s.tracker.reverseSeen = true →
        exec (.encoderStep a b true) s =
          .next
            (s.setTracker
              { s.tracker with
                lines := ⟨a, b, true⟩, counter := 0, direction := .forward, angleValid := true, net := 0,
                last := .forward, antipodeFlag := true, capture := some s.tracker.timer, lastPass := some .forward,
                reverseSeen := false })) ∧
      (forwardLines s.tracker.lines a b → ∀ c, s.tracker.capture = some c → s.tracker.lastPass = some .forward →
        s.tracker.reverseSeen = false →
        let m := (s.tracker.timer + 16777216 - c) % 16777216
        let period :=
          if m < 30000 ∨ 4000000 < m then none
          else
            match s.tracker.period with
            | none => some m
            | some p => if p / 512 < (m - p) + (p - m) then some m else some p
        exec (.encoderStep a b true) s =
          .next
            (s.setTracker
              { s.tracker with
                lines := ⟨a, b, true⟩, counter := 0, direction := .forward, angleValid := true, net := 0,
                last := .forward, antipodeFlag := true, capture := some s.tracker.timer, lastPass := some .forward,
                reverseSeen := false, period := period,
                target :=
                  match period with
                  | none => 0
                  | some p => min ((s.tracker.latency * 1024 + p / 2) / p) 255 })) ∧
      (reverseLines s.tracker.lines a b →
        exec (.encoderStep a b true) s =
          .next
            (s.setTracker
              { s.tracker with
                lines := ⟨a, b, true⟩, counter := 1023, direction := .reverse, angleValid := true, net := 0,
                last := .forward, antipodeFlag := true, lastPass := some .reverse, reverseSeen := false }))

/-- Every index pass leaves the counter at its implied value, the net step count 0 and ANGLE_VALID set; SLIP is raised
exactly when the angle was valid and the deviation is 3 or more either way (R61-R64). Each count of a forward correction does
what a forward step does, and moves no more than it but the lines, the direction and the net step count (R62). An index pass
with a valid angle is the step without the index, then SLIP if it is due, then the correction: forward, count by count, for a
counter that lags behind, in one move for one that runs ahead; and nothing else but the index history and, at a forward
pass, the capture with the period and the target of IndexPassMeasuresPeriod (R60, R62, R66-R69). That the capture comes
after the correction is the model's reading (log entry 8). -/
def Obligations.IndexPassCorrectsCounter : Prop :=
  (∀ (a b : Bool) (s t : State), TrackerLaw s.tracker → exec (.encoderStep a b true) s = .next t →
    (forwardLines s.tracker.lines a b →
        t.tracker.counter = 0 ∧ t.tracker.net = 0 ∧ t.tracker.angleValid = true ∧ t.tracker.direction = .forward ∧
          t.tracker.lastPass = some .forward ∧ t.tracker.reverseSeen = false ∧
          t.control.events[kindNumber .slip] =
            (if s.tracker.angleValid = true ∧ 3 ≤ nextCount s.tracker ∧ nextCount s.tracker ≤ 1021 then
              raisedRecord s.control.events[kindNumber .slip]
            else s.control.events[kindNumber .slip])) ∧
      (reverseLines s.tracker.lines a b →
        t.tracker.counter = 1023 ∧ t.tracker.net = 0 ∧ t.tracker.angleValid = true ∧ t.tracker.direction = .reverse ∧
          t.tracker.lastPass = some .reverse ∧ t.tracker.reverseSeen = false ∧
          t.control.events[kindNumber .slip] =
            (if s.tracker.angleValid = true ∧ 2 ≤ prevCount s.tracker ∧ prevCount s.tracker ≤ 1020 then
              raisedRecord s.control.events[kindNumber .slip]
            else s.control.events[kindNumber .slip]))) ∧
    (∀ s : State,
      correctForward 0 s = s ∧
        (∀ n, correctForward (n + 1) s = correctForward n (correctForward 1 s)) ∧
        (s.tracker.angleValid = true →
          ∃ t,
            exec (.encoderStep (!s.tracker.lines.b) s.tracker.lines.a false)
                (s.setTracker { s.tracker with net := 0 }) = .next t ∧
              correctForward 1 s =
                t.setTracker
                  { t.tracker with
                    lines := s.tracker.lines, direction := s.tracker.direction, net := s.tracker.net })) ∧
    ∀ (a b : Bool) (s : State), s.tracker.angleValid = true →
      (forwardLines s.tracker.lines a b →
          let c := nextCount s.tracker
          ∃ u t,
            exec (.encoderStep a b false) (s.setTracker { s.tracker with net := 0 }) = .next u ∧
              exec (.encoderStep a b true) s = .next t ∧
              (let v := if 3 ≤ c ∧ c ≤ 1021 then raise .slip u else u
              let w :=
                if 512 ≤ c then correctForward (1024 - c) v
                else v.setTracker { v.tracker with counter := 0 }
              t =
                w.setTracker
                  { w.tracker with
                    lines := ⟨a, b, true⟩, net := 0, lastPass := some .forward, reverseSeen := false,
                    capture := some s.tracker.timer, period := t.tracker.period, target := t.tracker.target })) ∧
        (reverseLines s.tracker.lines a b →
          let c := prevCount s.tracker
          ∃ u t,
            exec (.encoderStep a b false) (s.setTracker { s.tracker with net := 0 }) = .next u ∧
              exec (.encoderStep a b true) s = .next t ∧
              (let v := if 2 ≤ c ∧ c ≤ 1020 then raise .slip u else u
              let w :=
                if 511 ≤ c then correctForward (1023 - c) v
                else v.setTracker { v.tracker with counter := 1023 }
              t =
                w.setTracker
                  { w.tracker with
                    lines := ⟨a, b, true⟩, net := 0, lastPass := some .reverse, reverseSeen := false }))

/-- A forward index pass stores the timer's value; it measures the interval from the stored capture exactly when there is
one, the previous pass was forward and no reverse step came between, and the applied period follows by the table of R68; the
target advance is computed from it (R66-R69). -/
def Obligations.IndexPassMeasuresPeriod : Prop :=
  ∀ (a b : Bool) (s t : State), TrackerLaw s.tracker → forwardLines s.tracker.lines a b →
    exec (.encoderStep a b true) s = .next t →
    t.tracker.capture = some s.tracker.timer ∧ t.tracker.target = targetAdvance s.tracker.latency t.tracker.period ∧
      (s.tracker.capture = none ∨ s.tracker.lastPass ≠ some .forward ∨ s.tracker.reverseSeen = true →
        t.tracker.period = s.tracker.period) ∧
      ∀ c, s.tracker.capture = some c → s.tracker.lastPass = some .forward → s.tracker.reverseSeen = false →
        let m := (s.tracker.timer + 16777216 - c) % 16777216
        (m < 30000 ∨ 4000000 < m → t.tracker.period = none) ∧
          (30000 ≤ m ∧ m ≤ 4000000 →
            (s.tracker.period = none → t.tracker.period = some m) ∧
              ∀ p, s.tracker.period = some p →
                t.tracker.period = if p / 512 < (m - p) + (p - m) then some m else some p)

/-- The step that brings the net step count to a magnitude of 1,100 raises INDEX_LOST, clears ANGLE_VALID, disarms the pick
events, closes the arrival window without a decision and zeroes the count (R64, R86, R92). So it does after all that the
same step does to the boundary tracker and the pick events, a crossing and the firing of an event included (R60). The
arrival INDEX_LOST does the same while ANGLE_VALID is set and nothing while it is clear; CAPTURE_EXPIRY makes the capture
none (R66). That these two rows may come as arrivals of their own is the model's choice (log entry 5). -/
def Obligations.IndexLostAndCaptureExpiry : Prop :=
  (∀ (a b : Bool) (s : State), s.tracker.angleValid = true →
    (forwardLines s.tracker.lines a b → nextCount s.tracker ≠ boundary s.tracker →
        ¬eventAt s.tracker (nextCount s.tracker) → s.tracker.net = 1099 →
        ∃ t, exec (.encoderStep a b false) s = .next t ∧
          t.tracker =
            { s.tracker with
              lines := ⟨a, b, false⟩, counter := nextCount s.tracker, direction := .forward, net := 0,
              angleValid := false, armed := ⟨false, false, false⟩,
              antipodeFlag :=
                if nextCount s.tracker = (boundary s.tracker + 512) % 1024 then true else s.tracker.antipodeFlag } ∧
          t.weft = { s.weft with window := false, mark := false } ∧ t.control = (raise .indexLost s).control ∧
          t.store = s.store ∧ t.selector = s.selector ∧ t.health = s.health ∧ t.tables = s.tables ∧
          t.engine = s.engine ∧ t.admission = s.admission ∧ t.load = s.load ∧ t.port = s.port ∧
          t.draws = s.draws ∧ t.pending = s.pending) ∧
      (reverseLines s.tracker.lines a b → prevCount s.tracker ≠ reversePoint s.tracker → s.tracker.net = -1099 →
        ∃ t, exec (.encoderStep a b false) s = .next t ∧
          t.tracker =
            { s.tracker with
              lines := ⟨a, b, false⟩, counter := prevCount s.tracker, direction := .reverse, net := 0,
              angleValid := false, armed := ⟨false, false, false⟩, reverseSeen := true,
              antipodeFlag :=
                if prevCount s.tracker = (boundary s.tracker + 512) % 1024 then true else s.tracker.antipodeFlag } ∧
          t.weft = { s.weft with window := false, mark := false } ∧ t.control = (raise .indexLost s).control ∧
          t.store = s.store ∧ t.selector = s.selector ∧ t.health = s.health ∧ t.tables = s.tables ∧
          t.engine = s.engine ∧ t.admission = s.admission ∧ t.load = s.load ∧ t.port = s.port ∧
          t.draws = s.draws ∧ t.pending = s.pending)) ∧
    (∀ (a b : Bool) (s : State), s.tracker.angleValid = true →
      (forwardLines s.tracker.lines a b ∧ s.tracker.net = 1099) ∨
          (reverseLines s.tracker.lines a b ∧ s.tracker.net = -1099) →
      ∃ u,
        exec (.encoderStep a b false) (s.setTracker { s.tracker with net := 0 }) = .next u ∧
          u.tracker.angleValid = true ∧ exec (.encoderStep a b false) s = exec .indexLost u) ∧
    (∀ s : State,
    (s.tracker.angleValid = true →
        exec .indexLost s =
          .next
            ((((raise .indexLost s).setTracker
                  { s.tracker with angleValid := false, net := 0, armed := ⟨false, false, false⟩ })).setWeft
              { s.weft with window := false, mark := false })) ∧
      (s.tracker.angleValid = false → exec .indexLost s = .next s) ∧
      exec .captureExpiry s = .next (s.setTracker { s.tracker with capture := none }))


/-! ## Loom inputs -/

/-- Loom input 0: a change of level that matches the arrival edge, on a weft owner in RUN or HALT, sets the mark while the
window is OPEN and counts, up to 65,535, while it is CLOSED (R90, R91, R93). Loom inputs 1-7: a change of level that matches
the edge of an enabled input sets its input flag and raises INPUTn, in every node state (R96). Every other level is only
seen. -/
def Obligations.LoomInputEdges : Prop :=
  (∀ (level : Bool) (s : State),
    let w := { s.weft with levels := s.weft.levels.set 0 level }
    let edge :=
      s.weft.levels[(0 : Fin 8)] ≠ level ∧ s.weft.owner = true ∧ weaving s = true ∧
        (s.weft.arrivalEdge = .both ∨ (s.weft.arrivalEdge = .rise ∧ level = true) ∨
          (s.weft.arrivalEdge = .fall ∧ level = false))
    (edge → s.weft.window = true → exec (.loomInput0Edge level) s = .next (s.setWeft { w with mark := true })) ∧
      (edge → s.weft.window = false →
        exec (.loomInput0Edge level) s = .next (s.setWeft { w with outside := min (s.weft.outside + 1) 65535 })) ∧
      (¬edge → exec (.loomInput0Edge level) s = .next (s.setWeft w))) ∧
    (∀ (n : Fin 7) (level : Bool) (s : State),
    let w := { s.weft with levels := s.weft.levels.set n.succ level }
    let edge :=
      s.weft.levels[n.succ] ≠ level ∧ s.weft.enables[n] = true ∧
        (s.weft.edges[n] = .both ∨ (s.weft.edges[n] = .rise ∧ level = true) ∨
          (s.weft.edges[n] = .fall ∧ level = false))
    (edge →
        exec (.loomInputEdge n level) s =
          .next ((raise (.input n) s).setWeft { w with inputFlags := s.weft.inputFlags.set n true })) ∧
      (¬edge → exec (.loomInputEdge n level) s = .next (s.setWeft w)))


/-! ## The Ring Port -/

/-- A start delimiter while WAITING takes a FREE store, which becomes FILLING, and starts the reception timer with 20 ms;
with both stores occupied the frame is discarded and RING_OVERFLOW raised (R155). A start delimiter that cuts a frame short
first ends that frame as an error symbol and an end delimiter would, and then begins the new one (R154). Store A is taken
before B: the model's reading (log entry 9). -/
def Obligations.StartDelimiterTakesAStore : Prop :=
  (∀ (symbols : List LineSymbol) (s : State), s.port.receiver = .waiting →
    (s.port.storeA = .free →
        exec (.startDelimiter symbols) s =
          .next
            (s.setPort
              { s.port with
                storeA := .filling [] false false, receiver := .receiving .A, rxTimer := some 20000 })) ∧
      (s.port.storeA ≠ .free → s.port.storeB = .free →
        exec (.startDelimiter symbols) s =
          .next
            (s.setPort
              { s.port with
                storeB := .filling [] false false, receiver := .receiving .B, rxTimer := some 20000 })) ∧
      (s.port.storeA ≠ .free → s.port.storeB ≠ .free →
        exec (.startDelimiter symbols) s =
          .next
            ((raise .ringOverflow s).setPort { s.port with receiver := .discarding, rxTimer := some 20000 }))) ∧
    ∀ (symbols : List LineSymbol) (s : State), s.port.receiver ≠ .waiting →
      ∃ t, exec (.frameEnd (symbols ++ [.error])) s = .next t ∧ t.port.receiver = .waiting ∧
        exec (.startDelimiter symbols) s = exec (.startDelimiter []) t

/-- An end delimiter is ignored while WAITING and ends a discarded frame while DISCARDING. A frame received with a line-code
error, longer than 2,048 bytes, with fewer than 16, with a length field that does not agree, or with a CRC that does not
agree, judged in this order, is abandoned: its store becomes HELD with the ABANDONED frame of R167 and FRAME_ABANDONED is
raised (R154, R156, R167). -/
def Obligations.BadFrameIsAbandoned : Prop :=
  ∀ (symbols : List LineSymbol) (s : State),
    (s.port.receiver = .waiting → exec (.frameEnd symbols) s = .next s) ∧
      (s.port.receiver = .discarding →
        exec (.frameEnd symbols) s = .next (s.setPort { s.port with receiver := .waiting, rxTimer := none })) ∧
      ∀ i : StoreId, s.port.receiver = .receiving i → getStore s.port i = .filling [] false false →
        let kept := (symbolBytes symbols).take 2048
        let badLength :=
          2048 < (symbolBytes symbols).length ∨ kept.length < 16 ∨
            num16 (kept.getD 4 0) (kept.getD 5 0) + 16 ≠ kept.length
        let badCrc := kept.drop (kept.length - 2) ≠ halfBytes (crc16 (kept.take (kept.length - 2)))
        LineSymbol.error ∈ symbols ∨ badLength ∨ badCrc →
          exec (.frameEnd symbols) s =
            .next
              ((raise .frameAbandoned s).setPort
                { putStore i
                    (.held
                      (frameBytes
                        { kind := 0x05#8, dest := 0xFF#8, tag := half (kept.getD 2 0) (kept.getD 3 0),
                          slots := Vector.replicate 4 0xF000#16,
                          body :=
                            [kept.getD 0 0,
                              match s.port.number with
                              | some n => BitVec.ofNat 8 n.val
                              | none => 0xFF#8,
                              if LineSymbol.error ∈ symbols then 0x03#8 else if badLength then 0x02#8 else 0x01#8] }))
                    s.port with
                  receiver := .waiting, rxTimer := none, heldOrder := s.port.heldOrder ++ [i] })

/-- FRAME_END of the bytes of a frame that a ring row stands for does what the row does, and also holds the frame as the
action left it in the store it was received in (R156, R160, R168). So the bytes of every command, its CRC included, decode to
the command. That a row is the acting of its frame is the model's choice (log entry 1). The bytes of a frame are its kind, its
destination, its tag, the length of its body, its four slots, its body and its CRC, each value of two bytes more significant
byte first (R168); the CRC's register starts at all ones and takes the bits of the bytes before it, the most significant of a
byte first, by the generator x^16 + x^12 + x^5 + 1 (R159). -/
def Obligations.FrameEndActsAsItsRow : Prop :=
  (∀ f : Frame, f.body.length ≤ 2032 →
    let two := fun x : Half => [BitVec.ofNat 8 (x.toNat / 256), BitVec.ofNat 8 (x.toNat % 256)]
    let covered :=
      [f.kind, f.dest] ++ two f.tag ++ [BitVec.ofNat 8 (f.body.length / 256), BitVec.ofNat 8 (f.body.length % 256)] ++
        two f.slots[0] ++ two f.slots[1] ++ two f.slots[2] ++ two f.slots[3] ++ f.body
    frameBytes f = covered ++ two (crc16 covered)) ∧
  (∀ bytes : List Byte,
    crc16 bytes =
      (bytes.flatMap fun b => (List.range 8).map fun i => b.getLsbD (7 - i)).foldl
        (fun (r : Half) (bit : Bool) => if r.getLsbD 15 = bit then r <<< 1 else (r <<< 1) ^^^ 0x1021#16) 0xFFFF#16) ∧
  ∀ (i : Instr) (f : Frame) (store : StoreId) (symbols : List LineSymbol) (s : State), wellFormed i = true →
    frameOf i = some f → s.port.receiver = .receiving store → getStore s.port store = .filling [] false false →
    LineSymbol.error ∉ symbols → symbolBytes symbols = frameBytes f →
    ∃ (t : State) (g : Frame),
      exec i (s.setPort (stopReceiving (putStore store (.filling (frameBytes f) false false) s.port))) = .next t ∧
        t.port.acted = some g ∧
        exec (.frameEnd symbols) s = .next (t.setPort (holdFrame store (frameBytes g) t.port))

/-- The reception timer's expiry frees the store, returns the receiver to WAITING and raises LINK_TIMEOUT; a receiver that
is WAITING has no timer (R157; log entry 4). The transmitter, when it is free, takes the HELD store whose reception ended
first, and its store becomes FREE when the frame has gone out; while it is busy or nothing is HELD, no sending starts, and
with nothing SENDING none ends (R158; log entry 4). RING OUT carries the frame of a SENDING store as a start delimiter, its
bytes, an end delimiter and an idle, and idle while no store is SENDING; so an idle stands between any two frames (R154, R158;
that the row TRANSMIT_END takes in this idle is the model's reading, log entry 25). -/
def Obligations.TimeOutAndTransmission : Prop :=
  (∀ (symbols : List LineSymbol) (s : State),
    (s.port.receiver = .receiving .A →
        exec (.receptionTimeout symbols) s =
          .next
            ((raise .linkTimeout s).setPort { s.port with storeA := .free, receiver := .waiting, rxTimer := none })) ∧
      (s.port.receiver = .receiving .B →
        exec (.receptionTimeout symbols) s =
          .next
            ((raise .linkTimeout s).setPort { s.port with storeB := .free, receiver := .waiting, rxTimer := none })) ∧
      (s.port.receiver = .discarding →
        exec (.receptionTimeout symbols) s =
          .next ((raise .linkTimeout s).setPort { s.port with receiver := .waiting, rxTimer := none })) ∧
      (s.port.receiver = .waiting → exec (.receptionTimeout symbols) s = .next s)) ∧
    (∀ s : State,
    (∀ (bytes : List Byte) (rest : List StoreId), s.port.storeA = .held bytes → s.port.heldOrder = .A :: rest →
        isSending s.port.storeB = false →
        exec .transmitStart s = .next (s.setPort { s.port with storeA := .sending bytes, heldOrder := rest })) ∧
      (∀ (bytes : List Byte) (rest : List StoreId), s.port.storeB = .held bytes → s.port.heldOrder = .B :: rest →
        isSending s.port.storeA = false →
        exec .transmitStart s = .next (s.setPort { s.port with storeB := .sending bytes, heldOrder := rest })) ∧
      (s.port.heldOrder = [] ∨ isSending s.port.storeA = true ∨ isSending s.port.storeB = true →
        exec .transmitStart s = .next s) ∧
      (∀ bytes : List Byte, s.port.storeA = .sending bytes → isSending s.port.storeB = false →
        exec .transmitEnd s = .next (s.setPort { s.port with storeA := .free })) ∧
      ∀ bytes : List Byte, s.port.storeB = .sending bytes → isSending s.port.storeA = false →
        exec .transmitEnd s = .next (s.setPort { s.port with storeB := .free })) ∧
    (∀ s : State,
    isSending s.port.storeA = false → isSending s.port.storeB = false →
      exec .transmitEnd s = .next s ∧ ringOut s.port = [.idle]) ∧
    ∀ (s : State) (bytes : List Byte),
      (s.port.storeA = .sending bytes ∨ (isSending s.port.storeA = false ∧ s.port.storeB = .sending bytes)) →
        ringOut s.port = [.startDelimiter] ++ bytes.map SentSymbol.byte ++ [.endDelimiter, .idle]


/-- A COMMAND frame acts by its destination and the node number: an unnumbered node, and a node the frame is not for, forward
it unchanged; a broadcast one is executed and goes on with its body and a stamped slot; an addressed one is executed and
becomes a RESPONSE with its reply cut to the reply space (R160, R164, R165, R166). Before a command's own checks a broadcast
query or LOAD command gets RANGE, and in INIT every command but a query and RESET gets NOT_READY; such a refusal changes
nothing and has an empty reply (R135, R182). For every COMMAND row. -/
def Obligations.CommandsActByDestination : Prop :=
  (∀ (i : Instr) (h : Header) (c : Command) (pad : List Byte) (s : State), commandOf i = some (h, c, pad) →
    (s.port.number = none ∨ (∃ n, s.port.number = some n ∧ h.dest.toNat ≠ n.val ∧ h.dest ≠ 0xFF#8) →
        exec i s =
          .next
            (withActed { kind := 0x02#8, dest := h.dest, tag := h.tag, slots := h.slots, body := commandBytes c ++ pad }
              s)) ∧
      (∀ n, s.port.number = some n → h.dest = 0xFF#8 →
        let r := executeCommand true (some c) s
        exec i s = .next (withActed (stampedBroadcast n h (commandBytes c ++ pad) r.outcome r.state) r.state)) ∧
      ∀ n, s.port.number = some n → h.dest.toNat = n.val →
        let r := executeCommand false (some c) s
        exec i s =
          .next
            (withActed
              (responseFrame n h (replySpace (some c) (commandBytes c ++ pad).length) r.outcome r.reply r.state)
              r.state)) ∧
    (∀ (i : Instr) (h : Header) (c : Command) (pad : List Byte) (n : Fin 4) (s : State), commandOf i = some (h, c, pad) →
    reaches n h s →
    (h.dest = 0xFF#8 → (isQuery c || isLoad c) = true →
        exec i s = .next (withActed (stampedBroadcast n h (commandBytes c ++ pad) .range s) s)) ∧
      (s.control.node = .init → (isQuery c || isReset c) = false → ¬(h.dest = 0xFF#8 ∧ isLoad c = true) →
        exec i s = .next (answered n h (commandBytes c ++ pad) .notReady [] s)))


/-- The slot a node writes: outcome in bits 15-12, node state in 11-10, attention in 9, rewind active in 8, queue free count
in 7-4, truncated in 3, and 0 in the rest (R162, R168), when the queue holds at most 8 records. -/
def Obligations.SlotLayout : Prop :=
  ∀ (o : OutcomeCode) (cut : Bool) (s : State), s.store.queue.length ≤ 8 →
    let x := slotWord o cut s
    (x.extractLsb' 12 4).toNat = outcomeNumber o ∧ (x.extractLsb' 10 2).toNat = nodeCode s.control.node ∧
      x.getLsbD 9 = attention s ∧ x.getLsbD 8 = decide (0 < s.store.rewind ∨ 0 < s.store.overshoot) ∧
      (x.extractLsb' 4 4).toNat = 8 - s.store.queue.length ∧ x.getLsbD 3 = cut ∧ (x.extractLsb' 0 3).toNat = 0

/-- A good frame of a kind that no node acts on is held as it came, and changes nothing; so is a COMMAND at an unnumbered
node, and one for another node (R160). A COMMAND that names no command, or is shorter than its command's arguments, gets RANGE
with an empty reply; CONFIGURE of an unknown parameter gets RANGE with the parameter and the index as the reply, or in INIT
NOT_READY with an empty one; QUERY of an unknown subject gets RANGE with an empty reply in every node state: each, addressed
or broadcast, changes nothing (R160, R166, R182, R183, R188). The frame kept in `port.acted` is the model's (log entry 1). -/
def Obligations.OtherGoodFramesChangeNothing : Prop :=
  ∀ (f : Frame) (i : StoreId) (symbols : List LineSymbol) (s : State), f.body.length ≤ 2032 →
    s.port.receiver = .receiving i → getStore s.port i = .filling [] false false → LineSymbol.error ∉ symbols →
    symbolBytes symbols = frameBytes f →
    let held := fun g : Frame =>
      s.setPort
        { putStore i (.held (frameBytes g)) s.port with
          receiver := .waiting, rxTimer := none, heldOrder := s.port.heldOrder ++ [i], acted := some g }
    (f.kind ≠ 0x01#8 → f.kind ≠ 0x02#8 → f.kind ≠ 0x04#8 → exec (.frameEnd symbols) s = .next (held f)) ∧
      (∀ n : Fin 4, f.kind = 0x02#8 → decodeCommand f.body = none → s.port.number = some n →
        (f.dest.toNat = n.val →
            exec (.frameEnd symbols) s =
              .next
                (held
                  { f with kind := 0x03#8, body := [], slots := f.slots.set n (slotWord .range false s) })) ∧
          (f.dest = 0xFF#8 →
            exec (.frameEnd symbols) s = .next (held { f with slots := f.slots.set n (slotWord .range false s) }))) ∧
      (f.kind = 0x02#8 →
        (s.port.number = none ∨ ∃ n, s.port.number = some n ∧ f.dest.toNat ≠ n.val ∧ f.dest ≠ 0xFF#8) →
        exec (.frameEnd symbols) s = .next (held f)) ∧
      (∀ (n : Fin 4) (code index v1 v0 : Byte) (pad : List Byte), f.kind = 0x02#8 →
        f.body = [0x01#8, code, index, v1, v0] ++ pad → code = 0x00#8 ∨ 0x0D < code.toNat → s.port.number = some n →
        let outcome := if s.control.node = .init then OutcomeCode.notReady else .range
        let slots := f.slots.set n (slotWord outcome false s)
        (f.dest.toNat = n.val →
            exec (.frameEnd symbols) s =
              .next
                (held
                  { f with
                    kind := 0x03#8, slots := slots,
                    body := if s.control.node = .init then [] else [code, index] })) ∧
          (f.dest = 0xFF#8 → exec (.frameEnd symbols) s = .next (held { f with slots := slots }))) ∧
      ∀ (n : Fin 4) (subject s1 s0 : Byte) (pad : List Byte), f.kind = 0x02#8 →
        f.body = [0x0E#8, subject, s1, s0] ++ pad → subject = 0x00#8 ∨ 0x06 < subject.toNat →
        s.port.number = some n →
        let slots := f.slots.set n (slotWord .range false s)
        (f.dest.toNat = n.val →
            exec (.frameEnd symbols) s = .next (held { f with kind := 0x03#8, slots := slots, body := [] })) ∧
          (f.dest = 0xFF#8 → exec (.frameEnd symbols) s = .next (held { f with slots := slots }))

/-! ## DESIGN and ENUMERATE -/

/-- A DESIGN body is a row exactly when its length is 6 + 3 times its run count: pick number, colour, repeat count, run
count, and for each run a code and a length (R168, R173). A DESIGN row that passes the nine checks is accepted at a numbered
node: k EXPANDING records with their row snapshots join the queue, every LOADED slot's row counter advances by k, the row
joins the backlog with its bound width, the pick numbers follow, and the slot is stamped ACCEPTED after all this (R20, R21,
R23, R162, R171, R178). Installed hooks: with none, the records turn READY at once and the row leaves the backlog (R25; the
model's reading, log entry 20). -/
def Obligations.DesignRowAccepted : Prop :=
  (∀ body : List Byte,
    let b := fun i : Nat => (body.getD i 0).toNat
    let count := b 4 * 256 + b 5
    (body.length ≠ 6 + 3 * count → decodeDesign body = none) ∧
      (body.length = 6 + 3 * count →
        decodeDesign body =
          some
            { pick := b 0 * 256 + b 1, colour := b 2, count := b 3,
              runs :=
                (List.range count).map fun i =>
                  { code := b (6 + 3 * i), length := b (7 + 3 * i) * 256 + b (8 + 3 * i) } })) ∧
  ∀ (h : Header) (body : List Byte) (row : DesignRow) (n : Fin 4) (feeder : Nat) (s : State),
    s.port.number = some n → s.control.node ≠ .init → s.load = none → decodeDesign body = some row →
    1 ≤ row.count → row.count ≤ 8 → 1 ≤ row.runs.length → row.runs.length ≤ 512 →
    (∀ r ∈ row.runs, r.code ≤ 15 ∧ 1 ≤ r.length ∧ r.length ≤ 16384) → (row.runs.map Run.length).sum = s.tables.width →
    s.tables.width ≠ 0 → s.admission.lastAccepted ≠ some row.pick → s.admission.expected = row.pick →
    tieReady s.tables = true → (∀ r ∈ row.runs, codeReady s.tables r.code = true) →
    feederAt s.tables row.colour = some feeder → s.store.queue.length + row.count ≤ 8 → s.engine.backlog.length < 2 →
    WorkLaw s →
    ∃ t,
      exec (.designFrame h body) s =
          .next
            (withActed
              { kind := 0x01#8, dest := h.dest, tag := h.tag, slots := h.slots.set n (slotWord .accepted false t),
                body := body }
              t) ∧
        (∃ rs : List LiftRecord,
          rs.length = row.count ∧ t.store = { s.store with queue := s.store.queue ++ rs } ∧
            ∀ j : Fin rs.length,
              rs[j].id = ⟨row.pick, j⟩ ∧ rs[j].feeder = feeder ∧ rs[j].mark = false ∧ rs[j].lifts = [] ∧
                rs[j].state = (if installed s = 0 then .ready else .expanding) ∧
                ∀ i : Fin 16,
                  rs[j].snapshot[i] =
                    match s.tables.weaves[i] with
                    | .loaded g => some ((s.engine.rowCounters[i] + j) % g.h)
                    | _ => none) ∧
        (∀ i : Fin 16,
          t.engine.rowCounters[i] =
            match s.tables.weaves[i] with
            | .loaded g => (s.engine.rowCounters[i] + row.count) % g.h
            | _ => s.engine.rowCounters[i]) ∧
        t.engine.backlog =
          (if installed s = 0 then s.engine.backlog
          else s.engine.backlog ++ [⟨row.pick, row.count, s.tables.width, row.runs, 0⟩]) ∧
        t.engine.settled = (if installed s = 0 then [] else s.engine.settled) ∧
        t.admission = { expected := (row.pick + 1) % 65536, lastAccepted := some row.pick } ∧
        t.port = s.port ∧ t.load = s.load ∧ t.tables = s.tables ∧ t.tracker = s.tracker ∧ t.weft = s.weft ∧
        t.selector = s.selector ∧ t.health = s.health ∧ t.control = s.control ∧ t.draws = s.draws ∧
        t.pending = s.pending

/-- A DESIGN frame that is not accepted gets the outcome of the first check of R171 that fails: a repeat changes nothing at
all, every other refusal raises PICK_REFUSED and changes nothing else; an unnumbered node forwards the frame unchanged (R160,
R171, R174, R179). Ready are: a VALID tie whose SELVEDGE segments name LOADED slots, a code that is MAPPED to a LOADED slot,
and a colour that is MAPPED (R15). -/
def Obligations.DesignRowRefused : Prop :=
  (∀ t : Tables,
    (tieReady t = true ↔
        t.tieValid = true ∧
          ∀ g ∈ t.tie, g.kind = .selvedge →
            ∃ (slot : Fin 16) (invert : Nat) (w : Geometry),
              g.selvedge = some (slot.val, invert) ∧ t.weaves[slot] = .loaded w) ∧
      (∀ code : Nat,
        codeReady t code = true ↔
          ∃ (k slot : Fin 16) (f : CodeFields) (w : Geometry),
            code = k.val ∧ t.codes[k] = .mapped f ∧ f.slot = slot.val ∧ t.weaves[slot] = .loaded w) ∧
      ∀ colour feeder : Nat,
        feederAt t colour = some feeder ↔ ∃ k : Fin 8, colour = k.val ∧ t.wefts[k] = .mapped feeder) ∧
  ∀ (h : Header) (body : List Byte) (s : State),
    (s.port.number = none →
        exec (.designFrame h body) s =
          .next (withActed { kind := 0x01#8, dest := h.dest, tag := h.tag, slots := h.slots, body := body } s)) ∧
      ∀ n : Fin 4, s.port.number = some n →
        let refused := fun (o : OutcomeCode) (t : State) =>
          exec (.designFrame h body) s =
            .next
              (withActed
                { kind := 0x01#8, dest := h.dest, tag := h.tag, slots := h.slots.set n (slotWord o false t),
                  body := body }
                t)
        let t := raise .pickRefused s
        (s.control.node = .init → refused .notReady t) ∧
          (s.control.node ≠ .init → s.load ≠ none → refused .loading t) ∧
          (s.control.node ≠ .init → s.load = none →
            (decodeDesign body = none → refused .rowLength t) ∧
              ∀ row, decodeDesign body = some row →
                let shaped :=
                  1 ≤ row.count ∧ row.count ≤ 8 ∧ 1 ≤ row.runs.length ∧ row.runs.length ≤ 512 ∧
                    (∀ r ∈ row.runs, r.code ≤ 15 ∧ 1 ≤ r.length ∧ r.length ≤ 16384) ∧ s.tables.width ≠ 0 ∧
                    (row.runs.map Run.length).sum = s.tables.width
                (¬shaped → refused .rowLength t) ∧
                  (shaped → s.admission.lastAccepted = some row.pick → refused .repeated s) ∧
                  (shaped → s.admission.lastAccepted ≠ some row.pick →
                    (row.pick ≠ s.admission.expected → refused .sequence t) ∧
                      (row.pick = s.admission.expected →
                        (tieReady s.tables = false → refused .tableInvalid t) ∧
                          (tieReady s.tables = true →
                            ((∃ r ∈ row.runs, codeReady s.tables r.code = false) → refused .codeUnmapped t) ∧
                              ((∀ r ∈ row.runs, codeReady s.tables r.code = true) →
                                (feederAt s.tables row.colour = none → refused .weftUnmapped t) ∧
                                  (feederAt s.tables row.colour ≠ none →
                                    8 < s.store.queue.length + row.count ∨ 2 ≤ s.engine.backlog.length →
                                    s.store.queue.length ≤ 8 → refused .overrun t))))))

/-- ENUMERATE: in INIT and IDLE a counter 0-3 becomes the node number, its slot is stamped ACCEPTED and the counter goes on
one higher, later body bytes as received; a counter above 3 makes the node unnumbered and the frame goes on unchanged; in RUN
and HALT a numbered node keeps its number and stamps BAD_STATE; an empty body does nothing (R161). -/
def Obligations.EnumerateNumbersNode : Prop :=
  ∀ (h : Header) (counter : Byte) (rest : List Byte) (s : State),
    let as := fun (slots : Vector Half 4) (body : List Byte) (t : State) =>
      Host.Outcome.next
        (withActed { kind := 0x04#8, dest := h.dest, tag := h.tag, slots := slots, body := body } t)
    (exec (.enumerate h []) s = as h.slots [] s) ∧
      (weaving s = false → ∀ n : Fin 4, counter.toNat = n.val →
        exec (.enumerate h (counter :: rest)) s =
          as (h.slots.set n (slotWord .accepted false s)) ((counter + 1) :: rest)
            (s.setPort { s.port with number := some n })) ∧
      (weaving s = false → 4 ≤ counter.toNat →
        exec (.enumerate h (counter :: rest)) s =
          as h.slots (counter :: rest) (s.setPort { s.port with number := none })) ∧
      (weaving s = true → ∀ n : Fin 4, s.port.number = some n →
        exec (.enumerate h (counter :: rest)) s =
          as (h.slots.set n (slotWord .badState false s)) (counter :: rest) s)

/-! ## CONFIGURE -/

/-- The parameters that CONFIGURE takes in IDLE only: in range they take the value with ACCEPTED, out of range they keep
theirs with RANGE, in RUN and HALT they keep it with BAD_STATE whatever the value; the reply is the parameter, the index and
the value held afterwards (R14, R72, R83, R183). -/
def Obligations.IdleOnlyParameters : Prop :=
  ∀ (n : Fin 4) (h : Header) (index : Byte) (v : Half) (pad : List Byte) (s : State), reaches n h s →
    s.control.node ≠ .init →
    let done := fun (code : Byte) (o : OutcomeCode) (held : Nat) (t : State) =>
      Host.Outcome.next
        (answered n h ([0x01#8, code, index] ++ halfBytes v ++ pad) o ([code, index] ++ be16 held) t)
    (s.control.node ≠ .idle →
        exec (.configureDesignWidth h index v pad) s = done 0x01#8 .badState s.tables.width s ∧
          exec (.configureSelectAngle h index v pad) s = done 0x02#8 .badState s.tracker.selectAngle s ∧
          exec (.configureFeederDistance h index v pad) s = done 0x05#8 .badState s.tracker.feederDist s ∧
          exec (.configureArrivalOpenDistance h index v pad) s = done 0x06#8 .badState s.tracker.openDist s ∧
          exec (.configureArrivalCloseDistance h index v pad) s = done 0x07#8 .badState s.tracker.closeDist s) ∧
      (s.control.node = .idle →
        (exec (.configureDesignWidth h index v pad) s =
            if v.toNat ≤ 16384 then
              done 0x01#8 .accepted v.toNat (s.setTables { s.tables with width := v.toNat })
            else done 0x01#8 .range s.tables.width s) ∧
          (exec (.configureSelectAngle h index v pad) s =
            if v.toNat ≤ 1023 then
              done 0x02#8 .accepted v.toNat (s.setTracker { s.tracker with selectAngle := v.toNat })
            else done 0x02#8 .range s.tracker.selectAngle s) ∧
          (exec (.configureFeederDistance h index v pad) s =
            if 32 ≤ v.toNat ∧ v.toNat ≤ 736 then
              done 0x05#8 .accepted v.toNat (s.setTracker { s.tracker with feederDist := v.toNat })
            else done 0x05#8 .range s.tracker.feederDist s) ∧
          (exec (.configureArrivalOpenDistance h index v pad) s =
            if 32 ≤ v.toNat ∧ v.toNat ≤ 736 ∧ v.toNat < s.tracker.closeDist then
              done 0x06#8 .accepted v.toNat (s.setTracker { s.tracker with openDist := v.toNat })
            else done 0x06#8 .range s.tracker.openDist s) ∧
          exec (.configureArrivalCloseDistance h index v pad) s =
            if 32 ≤ v.toNat ∧ v.toNat ≤ 736 ∧ s.tracker.openDist < v.toNat then
              done 0x07#8 .accepted v.toNat (s.setTracker { s.tracker with closeDist := v.toNat })
            else done 0x07#8 .range s.tracker.closeDist s)

/-- The timing parameters: taken in IDLE, RUN and HALT at the value itself with ACCEPTED, or at the nearer limit with CLAMPED;
a new latency gives a new target advance at once (R69, R72, R127, R183). -/
def Obligations.TimingParameters : Prop :=
  ∀ (n : Fin 4) (h : Header) (index : Byte) (v : Half) (pad : List Byte) (s : State), reaches n h s →
    s.control.node ≠ .init →
    let done := fun (code : Byte) (o : OutcomeCode) (held : Nat) (t : State) =>
      Host.Outcome.next
        (answered n h ([0x01#8, code, index] ++ halfBytes v ++ pad) o ([code, index] ++ be16 held) t)
    let latency := fun x : Nat =>
      s.setTracker
        { s.tracker with
          latency := x,
          target :=
            match s.tracker.period with
            | none => 0
            | some p => min ((x * 1024 + p / 2) / p) 255 }
    let margin := fun x : Nat => s.setTracker { s.tracker with margin := x }
    let rest := fun x : Nat => s.setHealth { s.health with restTime := x }
    (exec (.configureSelectLatency h index v pad) s =
        if v.toNat ≤ 10000 then done 0x03#8 .accepted v.toNat (latency v.toNat)
        else done 0x03#8 .clamped 10000 (latency 10000)) ∧
      (exec (.configureReverseMargin h index v pad) s =
        if v.toNat < 4 then done 0x04#8 .clamped 4 (margin 4)
        else if 64 < v.toNat then done 0x04#8 .clamped 64 (margin 64)
        else done 0x04#8 .accepted v.toNat (margin v.toNat)) ∧
      exec (.configureRestTime h index v pad) s =
        if v.toNat < 20 then done 0x0D#8 .clamped 20 (rest 20)
        else if 500 < v.toNat then done 0x0D#8 .clamped 500 (rest 500)
        else done 0x0D#8 .accepted v.toNat (rest v.toNat)

/-- The weft-owner flag and the arrival edge: a change of the flag from 1 to 0 zeroes the feeder output and closes the window
without a decision (R88, R90). The enables and edges of inputs 1-7: the index is the input number; a disable clears the
input's flag; for an index out of range the reply has no value (R95, R97). A value or an index out of range changes nothing
(R183). -/
def Obligations.WeftAndInputParameters : Prop :=
  (∀ (n : Fin 4) (h : Header) (index : Byte) (v : Half) (pad : List Byte) (s : State), reaches n h s →
    s.control.node ≠ .init →
    let done := fun (code : Byte) (o : OutcomeCode) (held : Nat) (t : State) =>
      Host.Outcome.next
        (answered n h ([0x01#8, code, index] ++ halfBytes v ++ pad) o ([code, index] ++ be16 held) t)
    (v.toNat = 1 →
        exec (.configureWeftOwner h index v pad) s =
          done 0x08#8 .accepted 1 (s.setWeft { s.weft with owner := true })) ∧
      (v.toNat = 0 → s.weft.owner = false →
        exec (.configureWeftOwner h index v pad) s = done 0x08#8 .accepted 0 s) ∧
      (v.toNat = 0 → s.weft.owner = true →
        exec (.configureWeftOwner h index v pad) s =
          done 0x08#8 .accepted 0
            (s.setWeft { s.weft with owner := false, feeder := 0, window := false, mark := false })) ∧
      (2 ≤ v.toNat →
        exec (.configureWeftOwner h index v pad) s =
          done 0x08#8 .range (if s.weft.owner then 1 else 0) s) ∧
      (∀ e ∈ [(0, EdgeSelect.rise), (1, .fall), (2, .both)], v.toNat = e.1 →
        exec (.configureArrivalEdge h index v pad) s =
          done 0x09#8 .accepted e.1 (s.setWeft { s.weft with arrivalEdge := e.2 })) ∧
      (3 ≤ v.toNat →
        exec (.configureArrivalEdge h index v pad) s = done 0x09#8 .range (edgeCode s.weft.arrivalEdge) s)) ∧
    (∀ (n : Fin 4) (h : Header) (index : Byte) (v : Half) (pad : List Byte) (s : State), reaches n h s →
    s.control.node ≠ .init →
    let done := fun (code : Byte) (o : OutcomeCode) (held : List Byte) (t : State) =>
      Host.Outcome.next
        (answered n h ([0x01#8, code, index] ++ halfBytes v ++ pad) o ([code, index] ++ held) t)
    (∀ i : Fin 7, index.toNat = i.val + 1 →
        (v.toNat = 0 →
            exec (.configureInputEnable h index v pad) s =
              done 0x0A#8 .accepted [0, 0]
                (s.setWeft
                  { s.weft with enables := s.weft.enables.set i false, inputFlags := s.weft.inputFlags.set i false })) ∧
          (v.toNat = 1 →
            exec (.configureInputEnable h index v pad) s =
              done 0x0A#8 .accepted [0, 1] (s.setWeft { s.weft with enables := s.weft.enables.set i true })) ∧
          (2 ≤ v.toNat →
            exec (.configureInputEnable h index v pad) s =
              done 0x0A#8 .range [0, if s.weft.enables[i] then 1 else 0] s) ∧
          (∀ e ∈ [(0, EdgeSelect.rise), (1, .fall), (2, .both)], v.toNat = e.1 →
            exec (.configureInputEdge h index v pad) s =
              done 0x0B#8 .accepted (be16 e.1) (s.setWeft { s.weft with edges := s.weft.edges.set i e.2 })) ∧
          (3 ≤ v.toNat →
            exec (.configureInputEdge h index v pad) s =
              done 0x0B#8 .range (be16 (edgeCode s.weft.edges[i])) s)) ∧
      (index.toNat = 0 ∨ 8 ≤ index.toNat →
        exec (.configureInputEnable h index v pad) s = done 0x0A#8 .range [] s ∧
          exec (.configureInputEdge h index v pad) s = done 0x0B#8 .range [] s))


/-- The action level of an event kind: levels 0, 1 and 2 are taken for a kind that is not fixed, without a change of its flag
or count; STARVED, INDEX_LOST, MODULE_LOST and CHAIN_FAILED keep STOP; every refusal is RANGE (R142, R144, R183). -/
def Obligations.ActionLevels : Prop :=
  ∀ (n : Fin 4) (h : Header) (index : Byte) (v : Half) (pad : List Byte) (s : State), reaches n h s →
    s.control.node ≠ .init →
    let done := fun (o : OutcomeCode) (held : List Byte) (t : State) =>
      Host.Outcome.next
        (answered n h ([0x01#8, 0x0C#8, index] ++ halfBytes v ++ pad) o ([0x0C#8, index] ++ held) t)
    (26 ≤ index.toNat → exec (.configureActionLevel h index v pad) s = done .range [] s) ∧
      ∀ k : Fin 26, index.toNat = k.val →
        (k ∉ [0, 11, 18, 19] →
            (∀ l ∈ [(0, Level.record), (1, .notify), (2, .stop)], v.toNat = l.1 →
                exec (.configureActionLevel h index v pad) s =
                  done .accepted (be16 l.1)
                    (s.setControl
                      { s.control with
                        events := s.control.events.set k { s.control.events[k] with level := l.2 } })) ∧
              (3 ≤ v.toNat →
                exec (.configureActionLevel h index v pad) s =
                  done .range (be16 (levelCode s.control.events[k].level)) s)) ∧
          (k ∈ [0, 11, 18, 19] →
            exec (.configureActionLevel h index v pad) s =
              done .range (be16 (levelCode s.control.events[k].level)) s)

/-! ## Loads -/

/-- LOAD OPEN: its four checks in order, a refusal changing nothing; when they pass, the transaction opens and the target is
made unusable: WEAVE slots INVALID with counter 0, CODEMAP and WEFT entries UNMAPPED, the TIE INVALID and empty (R3, R6, R10,
R13, R184). -/
def Obligations.LoadOpens : Prop :=
  ∀ (n : Fin 4) (h : Header) (table first count : Byte) (pad : List Byte) (s : State), addressed n h s →
    s.control.node ≠ .init →
    let done := fun (o : OutcomeCode) (reply : List Byte) (t : State) =>
      exec (.loadOpen h table first count pad) s =
        .next (answered n h ([0x02#8, table, first, count] ++ pad) o reply t)
    let i := first.toNat
    let k := count.toNat
    let inRange :=
      ((table = 0x01#8 ∨ table = 0x02#8) ∧ i ≤ 15 ∧ 1 ≤ k ∧ i + k ≤ 16) ∨ (table = 0x03#8 ∧ i = 0 ∧ k ≤ 64) ∨
        (table = 0x04#8 ∧ i ≤ 7 ∧ 1 ≤ k ∧ i + k ≤ 8)
    (s.load ≠ none → done .busy [] s) ∧
      (s.load = none → ¬inRange → done .range [] s) ∧
      (s.load = none → inRange → s.engine.backlog ≠ [] → done .busy [] s) ∧
      (s.load = none → inRange → s.engine.backlog = [] → table = 0x01#8 → s.store.queue ≠ [] → done .busy [] s) ∧
      (s.load = none → inRange → s.engine.backlog = [] →
        (table = 0x01#8 → s.store.queue = [] →
            ∃ (v : Vector WeaveSlot 16) (r : Vector Nat 16),
              (∀ j : Fin 16,
                v[j] = (if i ≤ j.val ∧ j.val < i + k then .invalid none else s.tables.weaves[j]) ∧
                  r[j] = if i ≤ j.val ∧ j.val < i + k then 0 else s.engine.rowCounters[j]) ∧
                done .accepted [count]
                  (((s.setTables { s.tables with weaves := v }).setEngine { s.engine with rowCounters := r }).setLoad
                    (some ⟨.weave, i, k, k, 0⟩))) ∧
          (table = 0x02#8 →
            ∃ v : Vector CodeEntry 16,
              (∀ j : Fin 16,
                v[j] = if i ≤ j.val ∧ j.val < i + k then .unmapped none else s.tables.codes[j]) ∧
                done .accepted [count]
                  ((s.setTables { s.tables with codes := v }).setLoad (some ⟨.codemap, i, k, k, 0⟩))) ∧
          (table = 0x03#8 →
            done .accepted [count]
              ((s.setTables { s.tables with tieValid := false, tie := [] }).setLoad (some ⟨.tie, i, k, k, 0⟩))) ∧
          (table = 0x04#8 →
            ∃ v : Vector WeftEntry 8,
              (∀ j : Fin 8, v[j] = if i ≤ j.val ∧ j.val < i + k then .unmapped none else s.tables.wefts[j]) ∧
                done .accepted [count]
                  ((s.setTables { s.tables with wefts := v }).setLoad (some ⟨.weft, i, k, k, 0⟩))))

/-- LOAD DATA: no transaction BAD_STATE, another sequence number SEQUENCE, entries that do not decode or are too many RANGE,
each with remaining count and expected number and without a change; else the entries are written after those already
written, the remaining count falls by them and the expected number rises by 1 (R3, R6, R10, R13, R185). -/
def Obligations.LoadDataWrites : Prop :=
  ∀ (n : Fin 4) (h : Header) (sequence count : Byte) (bytes : List Byte) (s : State), addressed n h s →
    s.control.node ≠ .init →
    let done := fun (o : OutcomeCode) (reply : List Byte) (t : State) =>
      exec (.loadData h sequence count bytes) s =
        .next (answered n h ([0x03#8, sequence, count] ++ bytes) o reply t)
    (s.load = none → done .badState [0, 0] s) ∧
      ∀ ld : Load, s.load = some ld →
        let held : List Byte := [byteOf ld.remaining, byteOf ld.sequence]
        let most :=
          match ld.table with
          | .weave => 1
          | .codemap => 16
          | .tie => 16
          | .weft => 8
        let start := ld.first + (ld.count - ld.remaining)
        let next := fun t : Tables =>
          (s.setTables t).setLoad
            (some { ld with remaining := ld.remaining - count.toNat, sequence := ld.sequence + 1 })
        let now : List Byte := [byteOf (ld.remaining - count.toNat), byteOf (ld.sequence + 1)]
        (sequence.toNat ≠ ld.sequence → done .sequence held s) ∧
          (sequence.toNat = ld.sequence →
            (count.toNat = 0 ∨ most < count.toNat ∨ ld.remaining < count.toNat ∨
                  decodeEntries ld.table count.toNat bytes = none →
                done .range held s) ∧
              (1 ≤ count.toNat → count.toNat ≤ most → count.toNat ≤ ld.remaining →
                (∀ g, decodeEntries ld.table count.toNat bytes = some (.weaves [g]) →
                    ∃ v : Vector WeaveSlot 16,
                      (∀ j : Fin 16, v[j] = if j.val = start then .invalid (some g) else s.tables.weaves[j]) ∧
                        done .accepted now (next { s.tables with weaves := v })) ∧
                  (∀ xs, decodeEntries ld.table count.toNat bytes = some (.codes xs) →
                    ∃ v : Vector CodeEntry 16,
                      (∀ j : Fin 16,
                        v[j] =
                          if start ≤ j.val ∧ j.val < start + xs.length then .unmapped xs[j.val - start]?
                          else s.tables.codes[j]) ∧
                        done .accepted now (next { s.tables with codes := v })) ∧
                  (∀ xs, decodeEntries ld.table count.toNat bytes = some (.segments xs) →
                    done .accepted now (next { s.tables with tie := s.tables.tie ++ xs })) ∧
                  ∀ xs, decodeEntries ld.table count.toNat bytes = some (.feeders xs) →
                    ∃ v : Vector WeftEntry 8,
                      (∀ j : Fin 8,
                        v[j] =
                          if start ≤ j.val ∧ j.val < start + xs.length then .unmapped xs[j.val - start]?
                          else s.tables.wefts[j]) ∧
                        done .accepted now (next { s.tables with wefts := v })))

/-- LOAD CLOSE with no transaction is refused, with entries remaining closes it unchecked; LOAD ABORT closes it unchecked
with ACCEPTED and is refused with no transaction; a close always ends the transaction, and when the close checks fail the
reply is the failing index and the target stays as it is (R186, R187). The checks of a WEAVE load pass exactly when every slot
of its range holds W and H in 1-32, a start row below H and W times H cells; then each becomes LOADED with what was written
and its row counter its start row, and nothing else changes; else the lowest slot that does not is named with RANGE (R4). -/
def Obligations.LoadsEnd : Prop :=
  (∀ (n : Fin 4) (h : Header) (pad : List Byte) (s : State), addressed n h s → s.control.node ≠ .init →
    let close := fun (o : OutcomeCode) (reply : List Byte) (t : State) =>
      exec (.loadClose h pad) s = .next (answered n h (0x04#8 :: pad) o reply t)
    let abort := fun (o : OutcomeCode) (t : State) =>
      exec (.loadAbort h pad) s = .next (answered n h (0x05#8 :: pad) o [] t)
    (s.load = none → close .badState [] s ∧ abort .badState s) ∧
      (s.load ≠ none → abort .accepted (s.setLoad none)) ∧
      ∀ ld : Load, s.load = some ld →
        (ld.remaining ≠ 0 → close .badState [byteOf ld.remaining] (s.setLoad none)) ∧
          (ld.remaining = 0 →
            (∀ o i, checkLoad ld s.tables = .fail o i → close o [byteOf i] (s.setLoad none)) ∧
              (checkLoad ld s.tables = .pass → close .accepted [] ((makeUsable ld s).setLoad none)))) ∧
    (∀ (ld : Load) (s : State), ld.table = .weave → ld.first + ld.count ≤ 16 →
    let good := fun j : Fin 16 =>
      ∃ g, s.tables.weaves[j] = .invalid (some g) ∧ 1 ≤ g.w ∧ g.w ≤ 32 ∧ 1 ≤ g.h ∧ g.h ≤ 32 ∧ g.start < g.h ∧
        g.cells.length = g.w * g.h
    let inside := fun j : Fin 16 => ld.first ≤ j.val ∧ j.val < ld.first + ld.count
    (∀ j, inside j → ∃ written, s.tables.weaves[j] = .invalid written) →
      (∀ j, inside j → ¬good j → (∀ i < j, inside i → good i) → checkLoad ld s.tables = .fail .range j.val) ∧
        ((∀ j, inside j → good j) →
          checkLoad ld s.tables = .pass ∧
            ∃ (v : Vector WeaveSlot 16) (r : Vector Nat 16),
              makeUsable ld s = (s.setTables { s.tables with weaves := v }).setEngine { s.engine with rowCounters := r } ∧
                ∀ j : Fin 16,
                  (∀ g, inside j → s.tables.weaves[j] = .invalid (some g) → v[j] = .loaded g ∧ r[j] = g.start) ∧
                    (¬inside j → v[j] = s.tables.weaves[j] ∧ r[j] = s.engine.rowCounters[j])))


/-- The close checks of the other tables, on entries that a load has made unusable. CODEMAP: the lowest code out of range gets
RANGE, else the lowest whose slot is not LOADED gets NOT_FOUND, else all become MAPPED together (R7). WEFT: the lowest colour
whose feeder number is not 1-8 gets RANGE, else all become MAPPED (R13). TIE: the first segment out of range or not after the
one before it gets RANGE, else the first SELVEDGE segment whose slot is not LOADED gets NOT_FOUND, else the list becomes VALID
(R11). -/
def Obligations.CodeWeftAndTieCloses : Prop :=
  (∀ (ld : Load) (s : State), ld.table = .codemap → ld.first + ld.count ≤ 16 →
    let inside := fun j : Fin 16 => ld.first ≤ j.val ∧ j.val < ld.first + ld.count
    let holds := fun (j : Fin 16) (f : CodeFields) => s.tables.codes[j] = .unmapped (some f)
    let ranged := fun j : Fin 16 => ∃ f, holds j f ∧ f.slot ≤ 15 ∧ f.invert ≤ 1 ∧ f.dx ≤ 31 ∧ f.dy ≤ 31
    let found := fun j : Fin 16 =>
      ∃ f, holds j f ∧ ∃ (w : Fin 16) (g : Geometry), f.slot = w.val ∧ s.tables.weaves[w] = .loaded g
    (∀ j, inside j → ∃ written, s.tables.codes[j] = .unmapped written) →
      (∀ j, inside j → ¬ranged j → (∀ i < j, inside i → ranged i) → checkLoad ld s.tables = .fail .range j.val) ∧
        ((∀ j, inside j → ranged j) →
          (∀ j, inside j → ¬found j → (∀ i < j, inside i → found i) →
              checkLoad ld s.tables = .fail .notFound j.val) ∧
            ((∀ j, inside j → found j) →
              checkLoad ld s.tables = .pass ∧
                ∃ v : Vector CodeEntry 16,
                  makeUsable ld s = s.setTables { s.tables with codes := v } ∧
                    ∀ j, (∀ f, inside j → holds j f → v[j] = .mapped f) ∧ (¬inside j → v[j] = s.tables.codes[j])))) ∧
    (∀ (ld : Load) (s : State), ld.table = .weft → ld.first + ld.count ≤ 8 →
      let inside := fun j : Fin 8 => ld.first ≤ j.val ∧ j.val < ld.first + ld.count
      let ranged := fun j : Fin 8 => ∃ f, s.tables.wefts[j] = .unmapped (some f) ∧ 1 ≤ f ∧ f ≤ 8
      (∀ j, inside j → ∃ written, s.tables.wefts[j] = .unmapped written) →
        (∀ j, inside j → ¬ranged j → (∀ i < j, inside i → ranged i) → checkLoad ld s.tables = .fail .range j.val) ∧
          ((∀ j, inside j → ranged j) →
            checkLoad ld s.tables = .pass ∧
              ∃ v : Vector WeftEntry 8,
                makeUsable ld s = s.setTables { s.tables with wefts := v } ∧
                  ∀ j, (∀ f, inside j → s.tables.wefts[j] = .unmapped (some f) → v[j] = .mapped f) ∧
                    (¬inside j → v[j] = s.tables.wefts[j]))) ∧
    ∀ (ld : Load) (s : State), ld.table = .tie →
      let tie := s.tables.tie
      let ranged := fun j : Fin tie.length =>
        tie[j].h0 ≤ 12287 ∧ 1 ≤ tie[j].n ∧ tie[j].n ≤ 12288 ∧ (tie[j].direction = .asc ∨ tie[j].direction = .desc) ∧
          tie[j].c0 ≤ 16383 ∧ tie[j].e0 ≤ 31 ∧
          (tie[j].kind = .figure ∨ tie[j].kind = .void ∨
            (tie[j].kind = .selvedge ∧
              ∃ slot invert, tie[j].selvedge = some (slot, invert) ∧ slot ≤ 15 ∧ invert ≤ 1)) ∧
          tie[j].h0 + tie[j].n ≤ 12288 ∧
          ∀ i : Fin tie.length, i.val + 1 = j.val → tie[i].h0 + tie[i].n ≤ tie[j].h0
      let found := fun j : Fin tie.length =>
        tie[j].kind = .selvedge →
          ∃ (slot : Fin 16) (invert : Nat) (g : Geometry),
            tie[j].selvedge = some (slot.val, invert) ∧ s.tables.weaves[slot] = .loaded g
      (∀ j, ¬ranged j → (∀ i < j, ranged i) → checkLoad ld s.tables = .fail .range j.val) ∧
        ((∀ j, ranged j) →
          (∀ j, ¬found j → (∀ i < j, found i) → checkLoad ld s.tables = .fail .notFound j.val) ∧
            ((∀ j, found j) →
              checkLoad ld s.tables = .pass ∧ makeUsable ld s = s.setTables { s.tables with tieValid := true }))

/-! ## Run control and the clearing commands -/

/-- RUN: from IDLE with a valid angle, a design width above 0 and a chain PRESENT the node enters RUN and nothing else
changes, whatever the event flags; otherwise BAD_STATE and no change (R136). RESUME: from HALT with no STOP-level flag set
the node enters RUN and nothing else changes; otherwise BAD_STATE and no change (R138, R150). STOP REQUEST is asserted in
every node state but RUN, and deasserted in RUN (R141). -/
def Obligations.RunAndResumeEnterRun : Prop :=
  (∀ s : State, stopRequest s = true ↔ s.control.node ≠ .run) ∧
  ∀ (n : Fin 4) (h : Header) (pad : List Byte) (s : State), reaches n h s → s.control.node ≠ .init →
    let started :=
      s.control.node = .idle ∧ s.tracker.angleValid = true ∧ 0 < s.tables.width ∧
        ∃ c : Fin 6, s.selector.chains[c] ≠ .absent
    let resumed :=
      s.control.node = .halt ∧
        ∀ k : Fin 26, s.control.events[k].flag = true → s.control.events[k].level ≠ .stop
    (started →
        exec (.run h pad) s =
          .next (answered n h (0x06#8 :: pad) .accepted [] (s.setControl { s.control with node := .run }))) ∧
      (¬started → exec (.run h pad) s = .next (answered n h (0x06#8 :: pad) .badState [] s)) ∧
      (resumed →
        exec (.resume h pad) s =
          .next (answered n h (0x07#8 :: pad) .accepted [] (s.setControl { s.control with node := .run }))) ∧
      (¬resumed → exec (.resume h pad) s = .next (answered n h (0x07#8 :: pad) .badState [] s))

/-- IDLE: from RUN and HALT the node enters IDLE, the pick events are disarmed, the window closes without a decision, the
feeder output becomes 0, and the magnets are turned off by a ZERO shift that starts, becomes pending or is in flight already,
and with no chain PRESENT ends as it starts; in IDLE it changes nothing (R98, R106, R110, R139). -/
def Obligations.IdleEntersIdle : Prop :=
  ∀ (n : Fin 4) (h : Header) (pad : List Byte) (s : State), reaches n h s → s.control.node ≠ .init →
    (s.control.node = .idle → exec (.idle h pad) s = .next (answered n h (0x08#8 :: pad) .accepted [] s)) ∧
      (weaving s = true →
        let zero : Shift := { kind := .zero, source := none, values := List.replicate (installed s) false }
        let entered := fun x : Selector =>
          exec (.idle h pad) s =
            .next
              (answered n h (0x08#8 :: pad) .accepted []
                ((((s.setControl { s.control with node := .idle }).setTracker
                        { s.tracker with armed := ⟨false, false, false⟩ }).setWeft
                    { s.weft with window := false, mark := false, feeder := 0 }).setSelector
                  x))
        (s.selector.shift = none → (∃ c : Fin 6, s.selector.chains[c] ≠ .absent) →
            entered { s.selector with shift := some zero }) ∧
          (s.selector.shift = none → (∀ c : Fin 6, s.selector.chains[c] = .absent) →
            entered { s.selector with shift := none, latch := zero }) ∧
          (∀ sh, s.selector.shift = some sh → sh.kind = .pattern →
            entered { s.selector with pending := some .zero }) ∧
          ∀ sh, s.selector.shift = some sh → sh.kind = .zero → entered { s.selector with pending := none })

/-- DISCARD QUEUE in IDLE and HALT empties the queue and the backlog, moves every LOADED slot's row counter back by the number
of records removed, takes the expected number carried, forgets the last accepted one, and replies with the number removed;
in RUN it changes nothing (R34, R52, R190). -/
def Obligations.DiscardQueueEmpties : Prop :=
  ∀ (n : Fin 4) (h : Header) (expected : Half) (pad : List Byte) (s : State), reaches n h s →
    s.control.node ≠ .init → CounterRange s → s.store.queue.length ≤ 8 →
    let body := 0x09#8 :: (halfBytes expected ++ pad)
    (s.control.node = .run →
        exec (.discardQueue h expected pad) s = .next (answered n h body .badState [] s)) ∧
      (s.control.node ≠ .run →
        ∃ r : Vector Nat 16,
          (∀ i : Fin 16, ∀ g, s.tables.weaves[i] = .loaded g →
              r[i] < g.h ∧ (r[i] + s.store.queue.length) % g.h = s.engine.rowCounters[i]) ∧
            (∀ i : Fin 16, (∀ g, s.tables.weaves[i] ≠ .loaded g) → r[i] = 0) ∧
            exec (.discardQueue h expected pad) s =
              .next
                (answered n h body .accepted [BitVec.ofNat 8 s.store.queue.length]
                  (((s.setStore { s.store with queue := [] }).setEngine
                        { rowCounters := r, backlog := [], settled := [] }).setAdmission
                    { expected := expected.toNat, lastAccepted := none })))

/-- CLEAR HISTORY in IDLE empties the history and zeroes the rewind depth and the overshoot count, and nothing else; in RUN
and HALT it changes nothing (R53). CLEAR FAULT MAP in IDLE and HALT empties the map and zeroes the overflow count, and with
no record under work nothing else changes; in RUN it changes nothing (R122). With a record under work the hooks settled
before stay so, and what is settled now is a hook that was listed and not settled before, each once, as forced to 0: which
of them is free (R32, log entry 7). -/
def Obligations.ClearHistoryAndFaultMap : Prop :=
  ∀ (n : Fin 4) (h : Header) (pad : List Byte) (s : State), reaches n h s → s.control.node ≠ .init →
    (s.control.node = .idle →
        exec (.clearHistory h pad) s =
          .next
            (answered n h (0x0A#8 :: pad) .accepted []
              (s.setStore { s.store with history := [], rewind := 0, overshoot := 0 }))) ∧
      (s.control.node ≠ .idle →
        exec (.clearHistory h pad) s = .next (answered n h (0x0A#8 :: pad) .badState [] s)) ∧
      (s.control.node = .run →
        exec (.clearFaultMap h pad) s = .next (answered n h (0x0C#8 :: pad) .badState [] s)) ∧
      (s.control.node ≠ .run → s.engine.backlog = [] →
        exec (.clearFaultMap h pad) s =
          .next
            (answered n h (0x0C#8 :: pad) .accepted []
              (s.setHealth { s.health with faultMap := [], overflow := 0 }))) ∧
      (s.control.node ≠ .run →
        ∃ (added : List (Nat × Bool)) (draws : Nat),
          (∀ q ∈ added,
              q.2 = true ∧ (∃ e ∈ s.health.faultMap, e.hook = q.1) ∧ ∀ p ∈ s.engine.settled, p.1 ≠ q.1) ∧
            (added.map Prod.fst).Nodup ∧ s.draws ≤ draws ∧
            exec (.clearFaultMap h pad) s =
              .next
                (answered n h (0x0C#8 :: pad) .accepted []
                  (((s.setHealth { s.health with faultMap := [], overflow := 0 }).setEngine
                        { s.engine with settled := added ++ s.engine.settled }).setDraws
                    draws)))

/-- CLEAR EVENTS: a kind above 25 refuses the whole command; otherwise the named kinds lose flag and count and keep their
level, the others keep all, and naming WEFT_MISSING zeroes the arrival-outside count; input flags stay (R93, R97, R149). -/
def Obligations.ClearEventsClears : Prop :=
  ∀ (n : Fin 4) (h : Header) (kinds pad : List Byte) (s : State), reaches n h s → s.control.node ≠ .init →
    let body := [0x0B#8, BitVec.ofNat 8 kinds.length] ++ kinds ++ pad
    ((∃ b ∈ kinds, 25 < b.toNat) → exec (.clearEvents h kinds pad) s = .next (answered n h body .range [] s)) ∧
      ((∀ b ∈ kinds, b.toNat ≤ 25) →
        ∃ v : Vector EventRecord 26,
          (∀ k : Fin 26,
            v[k] =
              if ∃ b ∈ kinds, b.toNat = k.val then
                { flag := false, count := 0, level := s.control.events[k].level }
              else s.control.events[k]) ∧
            exec (.clearEvents h kinds pad) s =
              .next
                (answered n h body .accepted []
                  ((s.setControl { s.control with events := v }).setWeft
                    (if 0x02#8 ∈ kinds then { s.weft with outside := 0 } else s.weft))))

/-- RELEASE MODULE, its checks in order: chain above 5 or module above 127 RANGE, no such module NOT_FOUND, a module that is
not LATCHED BAD_STATE; a LATCHED one enters ACTIVE with both counts 0 and nothing else changes, the fault map and the event
flags included (R130). -/
def Obligations.ReleaseModuleReleases : Prop :=
  ∀ (n : Fin 4) (h : Header) (chain module : Byte) (pad : List Byte) (s : State), reaches n h s →
    s.control.node ≠ .init →
    let done := fun (o : OutcomeCode) (t : State) =>
      exec (.releaseModule h chain module pad) s = .next (answered n h ([0x0D#8, chain, module] ++ pad) o [] t)
    (6 ≤ chain.toNat ∨ 128 ≤ module.toNat → done .range s) ∧
      ∀ c : Fin 6, chain.toNat = c.val → module.toNat ≤ 127 →
        s.health.modules[c].length = moduleCount s.selector.chains[c] →
        (moduleCount s.selector.chains[c] ≤ module.toNat → done .notFound s) ∧
          ∀ r, s.health.modules[c][module.toNat]? = some r →
            (r.state ≠ .latched → done .badState s) ∧
              (r.state = .latched →
                done .accepted
                  (s.setHealth
                    { s.health with
                      modules :=
                        s.health.modules.set c
                          (s.health.modules[c].set module.toNat { state := .active, strikes := 0, clean := 0 }) }))

/-! ## Queries and RESET -/

/-- Every query row that reaches its node as an addressed frame is ACCEPTED in every node state, changes no state, and is cut
to the named reply space or the body length, whichever is smaller, with the truncated bit set when it was cut (R164, R188). A
QUERY TABLE is so when its range lies in its table, and else gets RANGE and an empty reply. -/
def Obligations.QueriesChangeNothing : Prop :=
  ∀ (n : Fin 4) (h : Header) (space : Half) (pad : List Byte) (s : State), addressed n h s →
    let cut := fun (args : List Byte) (code : Byte) (reply : List Byte) =>
      Host.Outcome.next
        (withActed
          (responseFrame n h
            (min space.toNat ([0x0E#8, code] ++ halfBytes space ++ args ++ pad).length) .accepted reply s)
          s)
    exec (.queryStatus h space pad) s = cut [] 0x01#8 (statusReply s) ∧
      exec (.queryEvents h space pad) s = cut [] 0x02#8 (eventsReply s) ∧
      exec (.queryFaultMap h space pad) s = cut [] 0x03#8 (faultMapReply s) ∧
      exec (.queryModules h space pad) s = cut [] 0x04#8 (modulesReply s) ∧
      exec (.queryPicks h space pad) s = cut [] 0x06#8 (picksReply s) ∧
      ∀ table first count : Byte,
        let i := first.toNat
        let k := count.toNat
        let inRange :=
          ((table = 0x01#8 ∨ table = 0x02#8) ∧ i ≤ 15 ∧ 1 ≤ k ∧ i + k ≤ 16) ∨
            (table = 0x03#8 ∧ i ≤ 63 ∧ 1 ≤ k ∧ i + k ≤ 64) ∨ (table = 0x04#8 ∧ i ≤ 7 ∧ 1 ≤ k ∧ i + k ≤ 8)
        (∀ t, tableOfCode table = some t → inRange →
            exec (.queryTable h space table first count pad) s =
              cut [table, first, count] 0x05#8 (tableReply t i k s)) ∧
          (¬inRange →
            exec (.queryTable h space table first count pad) s =
              .next (withActed (responseFrame n h
                (min space.toNat ([0x0E#8, 0x05#8] ++ halfBytes space ++ [table, first, count] ++ pad).length)
                .range [] s) s))

/-- What QUERY STATUS reports, byte by byte, for values in the ranges the laws give; what QUERY EVENTS reports of each kind;
and every byte of the replies of QUERY FAULT MAP, QUERY MODULES, QUERY PICKS and QUERY TABLE, a value that is wider than its
field cut to it (R18, R58, R117, R134, R152, R168, R189). The queue occupancy counts EXPANDING and READY records alike: the
model's choice between R33 and R36 (log entry 22). The bits that no layout names, those of the last packed cell byte among
them, are 0: the model's choice (log entry 24). The attention bit is 1 exactly while a flag of level NOTIFY or STOP is set,
the stop hold while one of level STOP is, and INPUT_ANY while an input flag is (R97, R148, R150). -/
def Obligations.QueryLayouts : Prop :=
  ∀ s : State,
    ((attention s = true ↔
          ∃ k : Fin 26, s.control.events[k].flag = true ∧
            (s.control.events[k].level = .notify ∨ s.control.events[k].level = .stop)) ∧
        (stopHold s = true ↔ ∃ k : Fin 26, s.control.events[k].flag = true ∧ s.control.events[k].level = .stop) ∧
        (inputAny s = true ↔ ∃ n : Fin 7, s.weft.inputFlags[n] = true)) ∧
    (TrackerLaw s.tracker → StoreLaw s.store → s.store.queue.length ≤ 8 → s.weft.outside ≤ 65535 →
        let b := fun i : Nat => ((statusReply s).getD i 0).toNat
        let flags := (statusReply s).getD 1 0
        (statusReply s).length = 26 ∧ b 0 = nodeCode s.control.node ∧
          (flags.getLsbD 0 = s.tracker.angleValid ∧ flags.getLsbD 1 = attention s ∧ flags.getLsbD 2 = stopHold s ∧
            flags.getLsbD 3 = inputAny s ∧ flags.getLsbD 4 = s.weft.owner ∧ (flags.extractLsb' 5 3).toNat = 0) ∧
          (s.load = none → b 2 = 0 ∧ b 3 = 0 ∧ b 4 = 0 ∧ b 5 = 0 ∧ b 6 = 0) ∧
          (∀ ld, s.load = some ld →
            b 2 = tableCode ld.table ∧ b 3 = ld.first % 256 ∧ b 4 = ld.count % 256 ∧ b 5 = ld.remaining % 256 ∧
              b 6 = ld.sequence % 256) ∧
          b 7 * 256 + b 8 = s.tracker.counter ∧ b 9 = (if s.tracker.direction = .forward then 0 else 1) ∧
          b 10 = s.tracker.applied ∧ b 11 = s.tracker.target ∧
          ((b 12 * 256 + b 13) * 256 + b 14) * 256 + b 15 = s.tracker.period.getD 4294967295 ∧
          b 16 = s.store.queue.length ∧ b 17 = s.store.history.length ∧ b 18 = s.store.rewind ∧
          b 19 = s.store.overshoot ∧ ((b 20 * 256 + b 21) * 256 + b 22) * 256 + b 23 = s.store.woven ∧
          b 24 * 256 + b 25 = s.weft.outside) ∧
      ((eventsReply s).length = 104 ∧
        ∀ k : Fin 26, s.control.events[k].count ≤ 65535 →
          let b := fun i : Nat => (eventsReply s).getD (4 * k.val + i) 0
          (b 0).getLsbD 0 = s.control.events[k].flag ∧ (b 0).getLsbD 1 = levelFixed k ∧
            ((b 0).extractLsb' 2 6).toNat = 0 ∧
            (b 1).toNat * 256 + (b 2).toNat = s.control.events[k].count ∧
            (b 3).toNat = levelCode s.control.events[k].level) ∧
      (let one := fun x : Nat => [BitVec.ofNat 8 x]
      let two := fun x : Nat => [BitVec.ofNat 8 (x / 256), BitVec.ofNat 8 x]
      faultMapReply s =
          one s.health.faultMap.length ++ two s.health.overflow ++
            s.health.faultMap.flatMap (fun e =>
              two e.hook ++ one (if e.kind = .opened then 1 else 2) ++ two e.source.pick ++ one e.source.sub) ∧
        modulesReply s =
          ((List.finRange 6).flatMap fun c => one (moduleCount s.selector.chains[c])) ++
            two (16 * (s.selector.chains.toList.map moduleCount).sum) ++
            (List.finRange 6).flatMap (fun c =>
              s.health.modules[c].flatMap fun r =>
                (match r.state with
                  | .active => one 0
                  | .resting _ => one 1
                  | .latched => one 2
                  | .lost => one 3) ++
                  one r.strikes ++ one r.clean ++
                  (match r.state with
                  | .resting left => two ((left + 999) / 1000)
                  | _ => two 0)) ∧
        picksReply s =
          one s.store.history.length ++ one s.store.queue.length ++
            s.store.history.flatMap (fun e =>
              (match e.id with
                | some p => two p.pick ++ one p.sub
                | none => two 0 ++ one 0) ++
                one ((if e.origin = .repeated then 1 else 0) + (if e.id = none then 2 else 0)) ++ one e.feeder) ++
            s.store.queue.flatMap (fun r =>
              two r.id.pick ++ one r.id.sub ++ one (if r.state = .ready then 1 else 0) ++ one r.feeder) ∧
        (∀ cells : List Bool,
          (packCells cells).length = (cells.length + 7) / 8 ∧
            ∀ i < 8 * ((cells.length + 7) / 8),
              ((packCells cells).getD (i / 8) 0).getLsbD (7 - i % 8) = cells.getD i false) ∧
        ∀ i k : Nat,
          tableReply .weave i k s =
              ((((List.finRange 16).drop i).take k).flatMap fun j =>
                let holds := fun w : Geometry =>
                  one w.w ++ one w.h ++ one w.start ++ one s.engine.rowCounters[j] ++ two w.cells.length ++
                    packCells w.cells
                match s.tables.weaves[j] with
                | .empty => one 0 ++ one 0
                | .loaded w => one 1 ++ one 1 ++ holds w
                | .invalid none => one 2 ++ one 0
                | .invalid (some w) => one 2 ++ one 1 ++ holds w) ∧
            tableReply .codemap i k s =
              ((((List.finRange 16).drop i).take k).flatMap fun j =>
                let holds := fun f : CodeFields => one f.slot ++ one f.invert ++ one f.dx ++ one f.dy
                match s.tables.codes[j] with
                | .unmapped none => one 0 ++ one 0
                | .unmapped (some f) => one 0 ++ one 1 ++ holds f
                | .mapped f => one 1 ++ one 1 ++ holds f) ∧
            tableReply .tie i k s =
              one (if s.tables.tieValid = true then 0 else 1) ++ one s.tables.tie.length ++
                ((s.tables.tie.drop i).take k).flatMap (fun g =>
                  two g.h0 ++ two g.n ++
                    [match g.direction with
                      | .asc => 0x00#8
                      | .desc => 0x01#8
                      | .unknown b => b] ++
                    two g.c0 ++ one g.e0 ++
                    [match g.kind with
                      | .figure => 0x00#8
                      | .selvedge => 0x01#8
                      | .void => 0x02#8
                      | .unknown b => b] ++
                    (match g.selvedge with
                    | some (slot, invert) => one slot ++ one invert
                    | none => one 0 ++ one 0)) ∧
            tableReply .weft i k s =
              ((((List.finRange 8).drop i).take k).flatMap fun j =>
                match s.tables.wefts[j] with
                | .unmapped none => one 0 ++ one 0
                | .unmapped (some f) => one 0 ++ one 1 ++ one f
                | .mapped f => one 1 ++ one 1 ++ one f))

/-- RESET, addressed or broadcast, in every node state: an open load is closed, row counters return to their start rows, the
store, the queue, the backlog and Hook Health are emptied, the tracker, the weft unit, the selector and the event records
take the values of R191, and the node enters INIT in the flush; the node number, the Ring Port's stores, the tables, every
configuration parameter, every action level, the counter, the direction, the timer, the magnets and the pins are kept. -/
def Obligations.ResetResets : Prop :=
  ∀ (n : Fin 4) (h : Header) (pad : List Byte) (s : State), reaches n h s →
    ∃ t,
      exec (.reset h pad) s = .next (answered n h (0x0F#8 :: pad) .accepted [] t) ∧
        t.load = none ∧ t.tables = s.tables ∧ t.store = ⟨[], [], 0, 0, 0⟩ ∧ t.admission = ⟨0, none⟩ ∧
        (t.engine.backlog = [] ∧ t.engine.settled = [] ∧
          ∀ i : Fin 16,
            t.engine.rowCounters[i] =
              match s.tables.weaves[i] with
              | .loaded g => g.start
              | _ => 0) ∧
        t.tracker =
          { s.tracker with
            angleValid := false, net := 0, lastPass := none, reverseSeen := false, capture := none, period := none,
            target := 0, applied := 0, last := .forward, antipodeFlag := true, armed := ⟨false, false, false⟩ } ∧
        t.weft =
          { s.weft with
            feeder := 0, window := false, mark := false, outside := 0, inputFlags := Vector.replicate 7 false } ∧
        t.selector =
          { chains := Vector.replicate 6 .absent, sizing := .flush, shift := none, pending := none,
            latch := s.selector.latch } ∧
        t.health = { s.health with faultMap := [], overflow := 0, modules := Vector.replicate 6 [] } ∧
        t.control.node = .init ∧
        (∀ k : Fin 26,
          t.control.events[k] = { flag := false, count := 0, level := s.control.events[k].level }) ∧
        t.port = s.port ∧ t.draws = s.draws ∧ t.pending = s.pending ∧
        slotWord .accepted false t = 0x0080#16

/-! ## Sizing, expansion, shifts and rests -/

/-- The flush pass ends with a ZERO latch of no magnet and the marker passes begin; a marker pass that does not complete the
sizing records its chain's size: PRESENT with ceil(p / 16) modules for p up to 2,048, ABSENT with CHAIN_SIZE above, ABSENT
for no marker (R101, R102). Outside their time, and for a chain whose pass has ended, the two rows change nothing (log entry
4). The end of the last marker pass completes the sizing: the chain sizes are set, so N is 16 times their modules, every
module gets a record in ACTIVE with both counts 0, and the node goes from INIT to IDLE; CHAIN_SIZE as at any pass (R123). In
the flush every chain is clocked with 4,096 zeros and given a latch strobe, in its marker pass with a marker and zeros and
no strobe (R101; that the marker is a 1 is the model's reading, log entry 23). -/
def Obligations.SizingEnds : Prop :=
  (∀ s : State,
    (s.selector.sizing = .flush →
        exec .sizingFlushEnd s =
          .next
            (s.setSelector
              { s.selector with sizing := .marker (Vector.replicate 6 none), latch := ⟨.zero, none, []⟩ })) ∧
      (s.selector.sizing ≠ .flush → exec .sizingFlushEnd s = .next s) ∧
      (∀ c : Fin 6,
        (s.selector.sizing = .flush → chainOutputs s c = ⟨List.replicate 4096 false, true, false⟩) ∧
          ∀ v, s.selector.sizing = .marker v → v[c] = none →
            chainOutputs s c = ⟨true :: List.replicate 4095 false, false, false⟩) ∧
      (∀ (c : Fin 6) (p : Option (Fin 4096)), (∀ v, s.selector.sizing ≠ .marker v) →
        exec (.markerPassEnd c p) s = .next s) ∧
      (∀ (c : Fin 6) (p : Option (Fin 4096)) (v : Vector (Option ChainSize) 6), s.selector.sizing = .marker v →
        v[c] ≠ none → exec (.markerPassEnd c p) s = .next s) ∧
      ∀ (c d : Fin 6) (v : Vector (Option ChainSize) 6), s.selector.sizing = .marker v → v[c] = none → c ≠ d →
        v[d] = none →
        (exec (.markerPassEnd c none) s =
            .next (s.setSelector { s.selector with sizing := .marker (v.set c (some .absent)) })) ∧
          ∀ p : Fin 4096,
            (p.val + 1 ≤ 2048 →
                exec (.markerPassEnd c (some p)) s =
                  .next
                    (s.setSelector
                      { s.selector with sizing := .marker (v.set c (some (.present ((p.val + 16) / 16)))) })) ∧
              (2048 < p.val + 1 →
                exec (.markerPassEnd c (some p)) s =
                  .next
                    ((raise .chainSize s).setSelector
                      { s.selector with sizing := .marker (v.set c (some .absent)) }))) ∧
    (∀ (c : Fin 6) (p : Option (Fin 4096)) (v : Vector (Option ChainSize) 6) (s : State),
    s.selector.sizing = .marker v → v[c] = none → (∀ d, d ≠ c → v[d] ≠ none) →
    let size :=
      match p with
      | none => ChainSize.absent
      | some x => if x.val + 1 ≤ 2048 then .present ((x.val + 16) / 16) else .absent
    let long := match p with
      | none => false
      | some x => decide (2048 < x.val + 1)
    ∃ t, exec (.markerPassEnd c p) s = .next t ∧
      (∃ sizes : Vector ChainSize 6,
        sizes[c] = size ∧ (∀ d, d ≠ c → v[d] = some sizes[d]) ∧
          t.selector = { s.selector with chains := sizes, sizing := .done } ∧
          installed t = 16 * (sizes.toList.map moduleCount).sum ∧
          ∃ m : Vector (List ModuleRecord) 6,
            (∀ d : Fin 6, m[d] = List.replicate (moduleCount sizes[d]) ⟨.active, 0, 0⟩) ∧
              t.health = { s.health with modules := m }) ∧
      t.control = { (if long then raise .chainSize s else s).control with node := .idle } ∧
      t.port = s.port ∧ t.admission = s.admission ∧ t.load = s.load ∧ t.tables = s.tables ∧ t.engine = s.engine ∧
      t.store = s.store ∧ t.tracker = s.tracker ∧ t.weft = s.weft ∧ t.draws = s.draws ∧ t.pending = s.pending)


/-- The engine finishes the record under work, the oldest EXPANDING one: in place it turns READY with one lift for each
installed hook; a hook outside the design's width is marked and COLUMN_RANGE raised once; the row leaves the backlog with its
last record; with nothing in hand nothing happens (R24, R33). A hook whose fault forcing was not settled on the way is 0 if it
is listed and else has the lift of the tables (R26-R32); how a hook settled on the way was settled is free (log entry 7). -/
def Obligations.RecordTurnsReady : Prop :=
  ∀ s : State,
    (s.engine.backlog = [] → exec .expansionRecordDone s = .next s) ∧
      ∀ (before after : List LiftRecord) (r : LiftRecord) (row : BacklogRow) (rows : List BacklogRow),
        s.store.queue = before ++ r :: after → (∀ x ∈ before, x.state = .ready) → r.state = .expanding →
        s.engine.backlog = row :: rows →
        ∃ (t : State) (lifts : List Bool),
          exec .expansionRecordDone s = .next t ∧
            lifts.length = installed s ∧
            (∀ h < installed s, (∀ q ∈ s.engine.settled, q.1 ≠ h) →
              lifts[h]? = some (!isListed s.health.faultMap h && hookLift s.tables row r.snapshot h)) ∧
            (∀ h < installed s, ∀ b : Bool, s.engine.settled.find? (fun q => q.1 == h) = some (h, b) →
              lifts[h]? = some (!b && hookLift s.tables row r.snapshot h)) ∧
            (let mark := decide (∃ h < installed s, outsideDesign s.tables row h = true)
            t.store =
                { s.store with
                  queue := before ++ { r with state := .ready, lifts := lifts, mark := mark } :: after } ∧
              t.control = (if mark then raise .columnRange s else s).control) ∧
            t.engine =
              { s.engine with
                settled := [],
                backlog := if row.count ≤ row.done + 1 then rows else { row with done := row.done + 1 } :: rows } ∧
            t.port = s.port ∧ t.admission = s.admission ∧ t.load = s.load ∧ t.tables = s.tables ∧
            t.tracker = s.tracker ∧ t.weft = s.weft ∧ t.selector = s.selector ∧ t.health = s.health ∧
            t.draws = s.draws ∧ t.pending = s.pending

/-- The lift of a hook, by the kind of the segment that covers it: 0 outside every segment and in a VOID one; in a FIGURE one
the cell of the weave slot its column's code names, code 0 outside the bound width, and 0 for a code that is not ready; in a
SELVEDGE one the cell of the segment's slot; the end index and the row index taken modulo W and H, then inverted when the
entry says so (R26-R31). The segment that covers a hook is one of the tie whose hooks it is among, and there is none only
where no segment covers it (R26); a column's code is that of the run it falls in, the runs taken in the order received, and a
hook falls outside the design when its segment is a FIGURE one and its column is below 0 or at or above the bound width (R27,
R28). -/
def Obligations.HookLiftByTables : Prop :=
  (∀ (t : Tables) (row : BacklogRow) (snapshot : Vector (Option Nat) 16) (h : Nat),
    (segmentOf t.tie h = none → hookLift t row snapshot h = false) ∧
      ∀ g, segmentOf t.tie h = some g → g.direction = .asc ∨ g.direction = .desc →
        let along := fun start : Nat =>
          if g.direction = .desc then (start : Int) - (h - g.h0 : Nat) else start + (h - g.h0 : Nat)
        let cell := fun (w : Geometry) (counter invert dx dy : Nat) =>
          ((w.cells[((counter + dy) % w.h) * w.w + ((along g.e0 + dx) % w.w).toNat]?).getD false) !=
            decide (invert = 1)
        (g.kind = .void → hookLift t row snapshot h = false) ∧
          (∀ (slot : Fin 16) (invert : Nat) (w : Geometry) (counter : Nat), g.kind = .selvedge →
            g.selvedge = some (slot.val, invert) → invert ≤ 1 → t.weaves[slot] = .loaded w → geometryPasses w = true →
            snapshot[slot] = some counter → hookLift t row snapshot h = cell w counter invert 0 0) ∧
          ∀ code : Fin 16, g.kind = .figure →
            code.val =
              (if 0 ≤ along g.c0 ∧ along g.c0 < (row.width : Int) then runCode row.runs (along g.c0).toNat
              else none).getD 0 →
            (codeReady t code = false → hookLift t row snapshot h = false) ∧
              ∀ (slot : Fin 16) (f : CodeFields) (w : Geometry) (counter : Nat), t.codes[code] = .mapped f →
                f.slot = slot.val → f.invert ≤ 1 → t.weaves[slot] = .loaded w → geometryPasses w = true →
                snapshot[slot] = some counter → hookLift t row snapshot h = cell w counter f.invert f.dx f.dy) ∧
    (∀ (tie : List Segment) (h : Nat),
      (segmentOf tie h = none ↔ ∀ g ∈ tie, h < g.h0 ∨ g.h0 + g.n ≤ h) ∧
        ∀ g, segmentOf tie h = some g → g ∈ tie ∧ g.h0 ≤ h ∧ h < g.h0 + g.n) ∧
    (∀ (before after : List Run) (r : Run) (c : Nat),
      (before.map Run.length).sum ≤ c → c < (before.map Run.length).sum + r.length →
        runCode (before ++ r :: after) c = some r.code) ∧
    ∀ (t : Tables) (row : BacklogRow) (h : Nat), (row.runs.map Run.length).sum = row.width →
      (segmentOf t.tie h = none → outsideDesign t row h = false) ∧
        ∀ g, segmentOf t.tie h = some g → g.direction = .asc ∨ g.direction = .desc →
          let column : Int :=
            if g.direction = .desc then (g.c0 : Int) - (h - g.h0 : Nat) else g.c0 + (h - g.h0 : Nat)
          (outsideDesign t row h = true ↔ g.kind = .figure ∧ (column < 0 ∨ (row.width : Int) ≤ column))

/-- The end of a shift: its values are latched, then the status about the latch before it acts on Hook Health, then a
pending shift starts from what the state holds now (R104, R107, R111, R114). With no shift in flight nothing happens (log
entry 4). The status is one word for each module of each PRESENT chain, taken in chain order and then module order, a module
without a word having its presence missing (R112, R114, R124; log entry 11). Outside sizing a shift clocks a PRESENT chain
of m modules with 16 m values, the outermost module's magnet 15 first and module 0's magnet 0 last, and gives it the latch
strobe; a chain that is ABSENT is not clocked, its DATA is held at 0 and it gets no strobe (R100, R103, R106). -/
def Obligations.ShiftEndLatches : Prop :=
  (∀ (latch : Shift) (status : List (List StatusWord)) (s : State), ModuleLaw s →
    takeStatus latch status s =
      ((List.finRange 6).flatMap fun c => (List.range (moduleCount s.selector.chains[c])).map fun k => (c, k)).foldl
        (fun t (p : Fin 6 × Nat) =>
          takeWord latch p.1 p.2
            (((status.getD p.1 [])[p.2]?).getD
              { present := false, overcurrent := false, magnets := Vector.replicate 16 .ok })
            t)
        s) ∧
  (∀ (c : Fin 6) (s : State), s.selector.sizing = .done →
    (s.selector.chains[c] = .absent → chainOutputs s c = ⟨[], false, true⟩) ∧
      ∀ (m : Nat) (sh : Shift), s.selector.chains[c] = .present m → s.selector.shift = some sh →
        sh.values.length = 16 * (s.selector.chains.toList.map moduleCount).sum →
        let first := 16 * ((s.selector.chains.toList.take c).map moduleCount).sum
        let x := chainOutputs s c
        x.clocked.length = 16 * m ∧ x.strobe = true ∧ x.heldAtZero = false ∧
          ∀ k < m, ∀ j < 16, x.clocked[16 * m - 1 - (16 * k + j)]? = sh.values[first + 16 * k + j]?) ∧
  ∀ (status : List (List StatusWord)) (s : State),
    (s.selector.shift = none → exec (.shiftEnd status) s = .next s) ∧
      ∀ sh, s.selector.shift = some sh → (∃ c : Fin 6, s.selector.chains[c] ≠ .absent) →
        let judged := takeStatus s.selector.latch status (s.setSelector { s.selector with shift := none, latch := sh })
        ∃ t, exec (.shiftEnd status) s = .next t ∧
          t.health = judged.health ∧ t.control = judged.control ∧ t.engine = judged.engine ∧ t.draws = judged.draws ∧
          t.selector =
            { s.selector with
              latch := sh, pending := none,
              shift :=
                match s.selector.pending with
                | none => none
                | some .zero => some ⟨.zero, none, List.replicate (installed s) false⟩
                | some .pattern => some (patternShift s.store t) } ∧
          t.port = s.port ∧ t.admission = s.admission ∧ t.load = s.load ∧ t.tables = s.tables ∧ t.store = s.store ∧
          t.tracker = s.tracker ∧ t.weft = s.weft ∧ t.pending = s.pending

/-- What one status word does to its module's record, the counts kept where nothing else is said: presence missing makes it
LOST with MODULE_LOST unless it is LOST already; overcurrent on an ACTIVE or RESTING module is a strike, the third of which
latches it with MODULE_LATCHED and the others of which start the rest anew with MODULE_REST; a word without overcurrent adds a
clean shift to an ACTIVE module and at 16 zeroes its strikes; LATCHED and LOST modules do not change otherwise. CHAIN_FAILED
follows when the module was the last of its chain in service. This is said of present words whose magnet findings, if any, are
none that R113 takes. Any other word of a module that is not LOST takes its findings first, in magnet order, each as
FindingsFillTheMap says, and then does what the same word without findings does; when the findings alone put the chain's last
module out of service, nothing follows them but CHAIN_FAILED (R124-R131). -/
def Obligations.StatusWordActsOnModule : Prop :=
  ∀ (latch : Shift) (c : Fin 6) (k : Nat) (w : StatusWord) (r : ModuleRecord) (s : State),
    s.health.modules[c][k]? = some r →
    let becomes := fun (x : ModuleRecord) (kinds : List EventKind) =>
      takeWord latch c k w s =
        raiseAll kinds (s.setHealth { s.health with modules := s.health.modules.set c (s.health.modules[c].set k x) })
    let alone := ∀ (j : Nat) (o : ModuleRecord), j ≠ k → s.health.modules[c][j]? = some o → isFailed o = true
    let fails := fun (x : ModuleRecord) (kind : EventKind) =>
      (alone → becomes x [kind, .chainFailed]) ∧ (¬alone → becomes x [kind])
    (w.present = false →
        (r.state = .lost → takeWord latch c k w s = s) ∧
          (r.state = .latched → becomes { r with state := .lost } [.moduleLost]) ∧
          (isFailed r = false → fails { r with state := .lost } .moduleLost)) ∧
      (w.present = true →
        (r.state = .lost → takeWord latch c k w s = s) ∧
          ((∀ m : Fin 16, findingEntry latch (firstHook s c k + m) w.magnets[m] = none) →
            (r.state = .latched → takeWord latch c k w s = s) ∧
              (isFailed r = false → w.overcurrent = true →
                (r.strikes = 2 → fails ⟨.latched, 3, 0⟩ .moduleLatched) ∧
                  (r.strikes < 2 → becomes ⟨.resting (s.health.restTime * 1000), r.strikes + 1, 0⟩ [.moduleRest])) ∧
              (r.state = .active → w.overcurrent = false →
                (r.clean < 15 → becomes { r with clean := r.clean + 1 } []) ∧
                  (r.clean = 15 → becomes { r with strikes := 0, clean := 0 } [])) ∧
              (∀ left, r.state = .resting left → w.overcurrent = false → takeWord latch c k w s = s)) ∧
          (r.state ≠ .lost →
            let u :=
              (List.finRange 16).foldl
                (fun t (m : Fin 16) =>
                  match findingEntry latch (firstHook s c k + m) w.magnets[m] with
                  | some e => takeFinding c k e t
                  | none => t)
                s
            let failed := fun t : State => ∀ x ∈ t.health.modules[c], isFailed x = true
            (failed u ∧ ¬failed s → takeWord latch c k w s = raise .chainFailed u) ∧
              (¬(failed u ∧ ¬failed s) →
                takeWord latch c k w s = takeWord latch c k { w with magnets := Vector.replicate 16 .ok } u)))

/-- A magnet finding of OPEN or SHORT is taken exactly against a hook that the latch energized, with its own kind and with
that latch's source (R113). Taken: a listed hook changes nothing; with room an entry is inserted in hook order and
HOOK_FAULT raised, and a module in service all of whose 16 hooks are then listed latches with MODULE_LATCHED, its counts
kept; with 64 entries the overflow count rises and FAULT_MAP_FULL is raised (R119, R120). With a record under work the newly
listed hook, unless it is settled already, may be settled as not forced, and no other (R32, log entry 7). -/
def Obligations.FindingsFillTheMap : Prop :=
  ∀ (latch : Shift) (h : Nat) (f : Finding) (e : FaultEntry),
    (findingEntry latch h f = some e ↔
        e.hook = h ∧ latch.values[h]? = some true ∧ latch.source = some e.source ∧
          ((f = .opened ∧ e.kind = .opened) ∨ (f = .shorted ∧ e.kind = .shorted))) ∧
      ∀ (c : Fin 6) (k : Nat) (s : State), FaultMapLaw s → (∃ m < 16, e.hook = firstHook s c k + m) →
        (e.hook ∈ s.health.faultMap.map FaultEntry.hook → takeFinding c k e s = s) ∧
          (e.hook ∉ s.health.faultMap.map FaultEntry.hook → s.health.faultMap.length = 64 →
            takeFinding c k e s =
              (raise .faultMapFull s).setHealth { s.health with overflow := min (s.health.overflow + 1) 65535 }) ∧
          (e.hook ∉ s.health.faultMap.map FaultEntry.hook → s.health.faultMap.length < 64 →
            let t := takeFinding c k e s
            let full :=
              ∀ j < 16, firstHook s c k + j = e.hook ∨ firstHook s c k + j ∈ s.health.faultMap.map FaultEntry.hook
            (∃ (before after : List FaultEntry) (m : Vector (List ModuleRecord) 6),
              s.health.faultMap = before ++ after ∧
                t.health = { s.health with faultMap := before ++ e :: after, modules := m } ∧
                (∀ x ∈ before, x.hook < e.hook) ∧ (∀ x ∈ after, e.hook < x.hook) ∧
                (∀ r, s.health.modules[c][k]? = some r → isFailed r = false → full →
                  m = s.health.modules.set c (s.health.modules[c].set k { r with state := .latched }) ∧
                    t.control = (raise .moduleLatched (raise .hookFault s)).control) ∧
                (¬(full ∧ ∃ r, s.health.modules[c][k]? = some r ∧ isFailed r = false) →
                  m = s.health.modules ∧ t.control = (raise .hookFault s).control)) ∧
              t.port = s.port ∧ t.admission = s.admission ∧ t.load = s.load ∧ t.tables = s.tables ∧ t.store = s.store ∧
              t.tracker = s.tracker ∧ t.weft = s.weft ∧ t.selector = s.selector ∧
              t.engine.backlog = s.engine.backlog ∧ t.engine.rowCounters = s.engine.rowCounters ∧
              (t.engine.settled = s.engine.settled ∨
                (s.engine.backlog ≠ [] ∧ (∀ q ∈ s.engine.settled, q.1 ≠ e.hook) ∧
                  t.engine.settled = (e.hook, false) :: s.engine.settled)) ∧
              s.draws ≤ t.draws ∧ t.pending = s.pending)

/-- A rest timer's expiry makes a RESTING module ACTIVE with its strikes kept and its clean-shift count 0, without an event;
a module that is not RESTING has no timer, and nothing happens (R127; log entries 4 and 5). -/
def Obligations.RestTimerExpires : Prop :=
  ∀ (c : Fin 6) (k : Nat) (s : State),
    (∀ r left, s.health.modules[c][k]? = some r → r.state = .resting left →
        exec (.restTimerExpiry c k) s =
          .next
            (s.setHealth
              { s.health with
                modules :=
                  s.health.modules.set c
                    (s.health.modules[c].set k { state := .active, strikes := r.strikes, clean := 0 }) })) ∧
      ((∀ r left, s.health.modules[c][k]? = some r → r.state ≠ .resting left) →
        exec (.restTimerExpiry c k) s = .next s)

/-! ## Events -/

/-- A raise sets the flag, counts to at most 65,535, keeps the level and, at level STOP in RUN alone, moves the node to HALT
and asserts STOP REQUEST; no other record and nothing else changes (R141, R145). -/
def Obligations.RaiseTakenWhole : Prop :=
  ∀ (k : EventKind) (s : State),
    let e := s.control.events[kindNumber k]
    let t := raise k s
    t.control.events[kindNumber k] = { flag := true, count := min (e.count + 1) 65535, level := e.level } ∧
      (∀ j : Fin 26, j ≠ kindNumber k → t.control.events[j] = s.control.events[j]) ∧
      (e.level = .stop → s.control.node = .run → t.control.node = .halt ∧ stopRequest t = true) ∧
      (¬(e.level = .stop ∧ s.control.node = .run) → t.control.node = s.control.node) ∧
      (e.level ≠ .record → attention t = true) ∧ (e.level = .stop → stopHold t = true) ∧ t = s.setControl t.control

/-! ## Invariants of every step -/

/-- Every step keeps the law of the history, the rewind depth and the overshoot count. -/
def Obligations.StoreLawKept : Prop :=
  ∀ s t : State, StoreLaw s.store → step s = .next t → StoreLaw t.store

/-- Every step keeps the order of the Pick Queue and its tie to the expected pick number. -/
def Obligations.QueueLawKept : Prop :=
  ∀ s t : State, QueueLaw s → step s = .next t → QueueLaw t

/-- Every step keeps the law of the work in hand and the law of INIT. -/
def Obligations.WorkAndInitLawKept : Prop :=
  ∀ s t : State, WorkLaw s → InitLaw s → step s = .next t → WorkLaw t ∧ InitLaw t

/-- Every step keeps the row-counter law. -/
def Obligations.RowCounterLawKept : Prop :=
  ∀ s t : State, RowCounterLaw s → step s = .next t → RowCounterLaw t

/-- Every step keeps the laws of the Hook Fault Map and of the module records, in a state in which INIT is the time of sizing
(InitLaw, itself kept by every step: WorkAndInitLawKept). -/
def Obligations.HealthLawKept : Prop :=
  ∀ s t : State, FaultMapLaw s → ModuleLaw s → InitLaw s → step s = .next t → FaultMapLaw t ∧ ModuleLaw t

/-- Every step keeps the law of the shift in flight and the pending shift. -/
def Obligations.ShiftLawKept : Prop :=
  ∀ s t : State, ShiftLaw s.selector → step s = .next t → ShiftLaw t.selector

/-- Every step keeps the ranges of the Shaft Tracker, the target advance as R69 gives it, and the laws of the pick events,
the arrival window, the feeder output and the input flags; these last in a state in which INIT is the time of sizing
(InitLaw, itself kept by every step: WorkAndInitLawKept). -/
def Obligations.TrackerAndWeftLawKept : Prop :=
  (∀ s t : State, TrackerLaw s.tracker → step s = .next t → TrackerLaw t.tracker) ∧
    (∀ s t : State, WeftLaw s → InputLaw s.weft → InitLaw s → step s = .next t → WeftLaw t ∧ InputLaw t.weft)


/-- Every step keeps the law of the frame stores and the law of the unnumbered node. -/
def Obligations.PortLawKept : Prop :=
  ∀ s t : State, PortLaw s.port → NumberLaw s → step s = .next t → PortLaw t.port ∧ NumberLaw t

/-- Every step keeps the law of the event records; and the node state moves in one step only so: HALT is entered only from
RUN, with a STOP-level flag set; RUN only from IDLE under the conditions of RUN or from HALT without a STOP-level flag; INIT
is left only for IDLE, as sizing completes (R135-R140, R142-R145). -/
def Obligations.EventLawAndNodeMoves : Prop :=
  ∀ s t : State, step s = .next t →
    (EventLaw s.control → EventLaw t.control) ∧
      (t.control.node = .halt → s.control.node ≠ .halt →
        s.control.node = .run ∧ ∃ k : Fin 26, t.control.events[k].flag = true ∧ t.control.events[k].level = .stop) ∧
      (t.control.node = .run → s.control.node ≠ .run →
        (s.control.node = .idle ∧ s.tracker.angleValid = true ∧ 0 < s.tables.width ∧ anyPresent s = true) ∨
          (s.control.node = .halt ∧ stopHold s = false)) ∧
      (s.control.node = .init → t.control.node ≠ .init →
        t.control.node = .idle ∧ (∃ v, s.selector.sizing = .marker v) ∧ t.selector.sizing = .done)

/-- The entries of a load decode to what they say, whatever bytes follow: Code Map entries and tie segments in the layout in
which QUERY TABLE reports them, weave geometry with its packed cells, feeder numbers (R168, R185). Of tie segments and weave
geometry those in range; that others are written as received (R185) is not said here. -/
def Obligations.LoadEntriesDecode : Prop :=
  ∀ tail : List Byte,
    (∀ xs : List CodeFields, (∀ f ∈ xs, f.slot < 256 ∧ f.invert < 256 ∧ f.dx < 256 ∧ f.dy < 256) →
        decodeEntries .codemap xs.length ((xs.map fieldBytes).flatten ++ tail) = some (.codes xs)) ∧
      (∀ xs : List Segment, (∀ g ∈ xs, segmentInRange g = true ∧ (g.kind ≠ .selvedge → g.selvedge = none)) →
        decodeEntries .tie xs.length ((xs.map segmentBytes).flatten ++ tail) = some (.segments xs)) ∧
      (∀ g : Geometry, geometryPasses g = true →
        decodeEntries .weave 1
            ([byteOf g.w, byteOf g.h, byteOf g.start] ++ be16 g.cells.length ++ packCells g.cells ++ tail) =
          some (.weaves [g])) ∧
      ∀ xs : List Nat, (∀ f ∈ xs, f < 256) →
        decodeEntries .weft xs.length (xs.map byteOf ++ tail) = some (.feeders xs)
end

