-- ==== Sys2Proof/Laws/State.lean ====
section
/-! SUPPORT. One lemma for each field after each setter of a block, true by `rfl`, so that no later proof unfolds a record
update. -/

namespace Sys2Proof.Machine

/-! ## After `setPort` -/

section
variable (s : State) (x : RingPort)
@[simp] theorem setPort_port : (s.setPort x).port = x := rfl
@[simp] theorem setPort_admission : (s.setPort x).admission = s.admission := rfl
@[simp] theorem setPort_load : (s.setPort x).load = s.load := rfl
@[simp] theorem setPort_tables : (s.setPort x).tables = s.tables := rfl
@[simp] theorem setPort_engine : (s.setPort x).engine = s.engine := rfl
@[simp] theorem setPort_store : (s.setPort x).store = s.store := rfl
@[simp] theorem setPort_tracker : (s.setPort x).tracker = s.tracker := rfl
@[simp] theorem setPort_weft : (s.setPort x).weft = s.weft := rfl
@[simp] theorem setPort_selector : (s.setPort x).selector = s.selector := rfl
@[simp] theorem setPort_health : (s.setPort x).health = s.health := rfl
@[simp] theorem setPort_control : (s.setPort x).control = s.control := rfl
@[simp] theorem setPort_draws : (s.setPort x).draws = s.draws := rfl
@[simp] theorem setPort_pending : (s.setPort x).pending = s.pending := rfl
end

/-! ## After `setAdmission` -/

section
variable (s : State) (x : Admission)
@[simp] theorem setAdmission_port : (s.setAdmission x).port = s.port := rfl
@[simp] theorem setAdmission_admission : (s.setAdmission x).admission = x := rfl
@[simp] theorem setAdmission_load : (s.setAdmission x).load = s.load := rfl
@[simp] theorem setAdmission_tables : (s.setAdmission x).tables = s.tables := rfl
@[simp] theorem setAdmission_engine : (s.setAdmission x).engine = s.engine := rfl
@[simp] theorem setAdmission_store : (s.setAdmission x).store = s.store := rfl
@[simp] theorem setAdmission_tracker : (s.setAdmission x).tracker = s.tracker := rfl
@[simp] theorem setAdmission_weft : (s.setAdmission x).weft = s.weft := rfl
@[simp] theorem setAdmission_selector : (s.setAdmission x).selector = s.selector := rfl
@[simp] theorem setAdmission_health : (s.setAdmission x).health = s.health := rfl
@[simp] theorem setAdmission_control : (s.setAdmission x).control = s.control := rfl
@[simp] theorem setAdmission_draws : (s.setAdmission x).draws = s.draws := rfl
@[simp] theorem setAdmission_pending : (s.setAdmission x).pending = s.pending := rfl
end

/-! ## After `setLoad` -/

section
variable (s : State) (x : Option Load)
@[simp] theorem setLoad_port : (s.setLoad x).port = s.port := rfl
@[simp] theorem setLoad_admission : (s.setLoad x).admission = s.admission := rfl
@[simp] theorem setLoad_load : (s.setLoad x).load = x := rfl
@[simp] theorem setLoad_tables : (s.setLoad x).tables = s.tables := rfl
@[simp] theorem setLoad_engine : (s.setLoad x).engine = s.engine := rfl
@[simp] theorem setLoad_store : (s.setLoad x).store = s.store := rfl
@[simp] theorem setLoad_tracker : (s.setLoad x).tracker = s.tracker := rfl
@[simp] theorem setLoad_weft : (s.setLoad x).weft = s.weft := rfl
@[simp] theorem setLoad_selector : (s.setLoad x).selector = s.selector := rfl
@[simp] theorem setLoad_health : (s.setLoad x).health = s.health := rfl
@[simp] theorem setLoad_control : (s.setLoad x).control = s.control := rfl
@[simp] theorem setLoad_draws : (s.setLoad x).draws = s.draws := rfl
@[simp] theorem setLoad_pending : (s.setLoad x).pending = s.pending := rfl
end

/-! ## After `setTables` -/

section
variable (s : State) (x : Tables)
@[simp] theorem setTables_port : (s.setTables x).port = s.port := rfl
@[simp] theorem setTables_admission : (s.setTables x).admission = s.admission := rfl
@[simp] theorem setTables_load : (s.setTables x).load = s.load := rfl
@[simp] theorem setTables_tables : (s.setTables x).tables = x := rfl
@[simp] theorem setTables_engine : (s.setTables x).engine = s.engine := rfl
@[simp] theorem setTables_store : (s.setTables x).store = s.store := rfl
@[simp] theorem setTables_tracker : (s.setTables x).tracker = s.tracker := rfl
@[simp] theorem setTables_weft : (s.setTables x).weft = s.weft := rfl
@[simp] theorem setTables_selector : (s.setTables x).selector = s.selector := rfl
@[simp] theorem setTables_health : (s.setTables x).health = s.health := rfl
@[simp] theorem setTables_control : (s.setTables x).control = s.control := rfl
@[simp] theorem setTables_draws : (s.setTables x).draws = s.draws := rfl
@[simp] theorem setTables_pending : (s.setTables x).pending = s.pending := rfl
end

/-! ## After `setEngine` -/

section
variable (s : State) (x : Engine)
@[simp] theorem setEngine_port : (s.setEngine x).port = s.port := rfl
@[simp] theorem setEngine_admission : (s.setEngine x).admission = s.admission := rfl
@[simp] theorem setEngine_load : (s.setEngine x).load = s.load := rfl
@[simp] theorem setEngine_tables : (s.setEngine x).tables = s.tables := rfl
@[simp] theorem setEngine_engine : (s.setEngine x).engine = x := rfl
@[simp] theorem setEngine_store : (s.setEngine x).store = s.store := rfl
@[simp] theorem setEngine_tracker : (s.setEngine x).tracker = s.tracker := rfl
@[simp] theorem setEngine_weft : (s.setEngine x).weft = s.weft := rfl
@[simp] theorem setEngine_selector : (s.setEngine x).selector = s.selector := rfl
@[simp] theorem setEngine_health : (s.setEngine x).health = s.health := rfl
@[simp] theorem setEngine_control : (s.setEngine x).control = s.control := rfl
@[simp] theorem setEngine_draws : (s.setEngine x).draws = s.draws := rfl
@[simp] theorem setEngine_pending : (s.setEngine x).pending = s.pending := rfl
end

/-! ## After `setStore` -/

section
variable (s : State) (x : PickStore)
@[simp] theorem setStore_port : (s.setStore x).port = s.port := rfl
@[simp] theorem setStore_admission : (s.setStore x).admission = s.admission := rfl
@[simp] theorem setStore_load : (s.setStore x).load = s.load := rfl
@[simp] theorem setStore_tables : (s.setStore x).tables = s.tables := rfl
@[simp] theorem setStore_engine : (s.setStore x).engine = s.engine := rfl
@[simp] theorem setStore_store : (s.setStore x).store = x := rfl
@[simp] theorem setStore_tracker : (s.setStore x).tracker = s.tracker := rfl
@[simp] theorem setStore_weft : (s.setStore x).weft = s.weft := rfl
@[simp] theorem setStore_selector : (s.setStore x).selector = s.selector := rfl
@[simp] theorem setStore_health : (s.setStore x).health = s.health := rfl
@[simp] theorem setStore_control : (s.setStore x).control = s.control := rfl
@[simp] theorem setStore_draws : (s.setStore x).draws = s.draws := rfl
@[simp] theorem setStore_pending : (s.setStore x).pending = s.pending := rfl
end

/-! ## After `setTracker` -/

section
variable (s : State) (x : Tracker)
@[simp] theorem setTracker_port : (s.setTracker x).port = s.port := rfl
@[simp] theorem setTracker_admission : (s.setTracker x).admission = s.admission := rfl
@[simp] theorem setTracker_load : (s.setTracker x).load = s.load := rfl
@[simp] theorem setTracker_tables : (s.setTracker x).tables = s.tables := rfl
@[simp] theorem setTracker_engine : (s.setTracker x).engine = s.engine := rfl
@[simp] theorem setTracker_store : (s.setTracker x).store = s.store := rfl
@[simp] theorem setTracker_tracker : (s.setTracker x).tracker = x := rfl
@[simp] theorem setTracker_weft : (s.setTracker x).weft = s.weft := rfl
@[simp] theorem setTracker_selector : (s.setTracker x).selector = s.selector := rfl
@[simp] theorem setTracker_health : (s.setTracker x).health = s.health := rfl
@[simp] theorem setTracker_control : (s.setTracker x).control = s.control := rfl
@[simp] theorem setTracker_draws : (s.setTracker x).draws = s.draws := rfl
@[simp] theorem setTracker_pending : (s.setTracker x).pending = s.pending := rfl
end

/-! ## After `setWeft` -/

section
variable (s : State) (x : WeftUnit)
@[simp] theorem setWeft_port : (s.setWeft x).port = s.port := rfl
@[simp] theorem setWeft_admission : (s.setWeft x).admission = s.admission := rfl
@[simp] theorem setWeft_load : (s.setWeft x).load = s.load := rfl
@[simp] theorem setWeft_tables : (s.setWeft x).tables = s.tables := rfl
@[simp] theorem setWeft_engine : (s.setWeft x).engine = s.engine := rfl
@[simp] theorem setWeft_store : (s.setWeft x).store = s.store := rfl
@[simp] theorem setWeft_tracker : (s.setWeft x).tracker = s.tracker := rfl
@[simp] theorem setWeft_weft : (s.setWeft x).weft = x := rfl
@[simp] theorem setWeft_selector : (s.setWeft x).selector = s.selector := rfl
@[simp] theorem setWeft_health : (s.setWeft x).health = s.health := rfl
@[simp] theorem setWeft_control : (s.setWeft x).control = s.control := rfl
@[simp] theorem setWeft_draws : (s.setWeft x).draws = s.draws := rfl
@[simp] theorem setWeft_pending : (s.setWeft x).pending = s.pending := rfl
end

/-! ## After `setSelector` -/

section
variable (s : State) (x : Selector)
@[simp] theorem setSelector_port : (s.setSelector x).port = s.port := rfl
@[simp] theorem setSelector_admission : (s.setSelector x).admission = s.admission := rfl
@[simp] theorem setSelector_load : (s.setSelector x).load = s.load := rfl
@[simp] theorem setSelector_tables : (s.setSelector x).tables = s.tables := rfl
@[simp] theorem setSelector_engine : (s.setSelector x).engine = s.engine := rfl
@[simp] theorem setSelector_store : (s.setSelector x).store = s.store := rfl
@[simp] theorem setSelector_tracker : (s.setSelector x).tracker = s.tracker := rfl
@[simp] theorem setSelector_weft : (s.setSelector x).weft = s.weft := rfl
@[simp] theorem setSelector_selector : (s.setSelector x).selector = x := rfl
@[simp] theorem setSelector_health : (s.setSelector x).health = s.health := rfl
@[simp] theorem setSelector_control : (s.setSelector x).control = s.control := rfl
@[simp] theorem setSelector_draws : (s.setSelector x).draws = s.draws := rfl
@[simp] theorem setSelector_pending : (s.setSelector x).pending = s.pending := rfl
end

/-! ## After `setHealth` -/

section
variable (s : State) (x : Health)
@[simp] theorem setHealth_port : (s.setHealth x).port = s.port := rfl
@[simp] theorem setHealth_admission : (s.setHealth x).admission = s.admission := rfl
@[simp] theorem setHealth_load : (s.setHealth x).load = s.load := rfl
@[simp] theorem setHealth_tables : (s.setHealth x).tables = s.tables := rfl
@[simp] theorem setHealth_engine : (s.setHealth x).engine = s.engine := rfl
@[simp] theorem setHealth_store : (s.setHealth x).store = s.store := rfl
@[simp] theorem setHealth_tracker : (s.setHealth x).tracker = s.tracker := rfl
@[simp] theorem setHealth_weft : (s.setHealth x).weft = s.weft := rfl
@[simp] theorem setHealth_selector : (s.setHealth x).selector = s.selector := rfl
@[simp] theorem setHealth_health : (s.setHealth x).health = x := rfl
@[simp] theorem setHealth_control : (s.setHealth x).control = s.control := rfl
@[simp] theorem setHealth_draws : (s.setHealth x).draws = s.draws := rfl
@[simp] theorem setHealth_pending : (s.setHealth x).pending = s.pending := rfl
end

/-! ## After `setControl` -/

section
variable (s : State) (x : Control)
@[simp] theorem setControl_port : (s.setControl x).port = s.port := rfl
@[simp] theorem setControl_admission : (s.setControl x).admission = s.admission := rfl
@[simp] theorem setControl_load : (s.setControl x).load = s.load := rfl
@[simp] theorem setControl_tables : (s.setControl x).tables = s.tables := rfl
@[simp] theorem setControl_engine : (s.setControl x).engine = s.engine := rfl
@[simp] theorem setControl_store : (s.setControl x).store = s.store := rfl
@[simp] theorem setControl_tracker : (s.setControl x).tracker = s.tracker := rfl
@[simp] theorem setControl_weft : (s.setControl x).weft = s.weft := rfl
@[simp] theorem setControl_selector : (s.setControl x).selector = s.selector := rfl
@[simp] theorem setControl_health : (s.setControl x).health = s.health := rfl
@[simp] theorem setControl_control : (s.setControl x).control = x := rfl
@[simp] theorem setControl_draws : (s.setControl x).draws = s.draws := rfl
@[simp] theorem setControl_pending : (s.setControl x).pending = s.pending := rfl
end

/-! ## After `setDraws` -/

section
variable (s : State) (x : Nat)
@[simp] theorem setDraws_port : (s.setDraws x).port = s.port := rfl
@[simp] theorem setDraws_admission : (s.setDraws x).admission = s.admission := rfl
@[simp] theorem setDraws_load : (s.setDraws x).load = s.load := rfl
@[simp] theorem setDraws_tables : (s.setDraws x).tables = s.tables := rfl
@[simp] theorem setDraws_engine : (s.setDraws x).engine = s.engine := rfl
@[simp] theorem setDraws_store : (s.setDraws x).store = s.store := rfl
@[simp] theorem setDraws_tracker : (s.setDraws x).tracker = s.tracker := rfl
@[simp] theorem setDraws_weft : (s.setDraws x).weft = s.weft := rfl
@[simp] theorem setDraws_selector : (s.setDraws x).selector = s.selector := rfl
@[simp] theorem setDraws_health : (s.setDraws x).health = s.health := rfl
@[simp] theorem setDraws_control : (s.setDraws x).control = s.control := rfl
@[simp] theorem setDraws_draws : (s.setDraws x).draws = x := rfl
@[simp] theorem setDraws_pending : (s.setDraws x).pending = s.pending := rfl
end

/-! ## After `setPending` -/

section
variable (s : State) (x : List Instr)
@[simp] theorem setPending_port : (s.setPending x).port = s.port := rfl
@[simp] theorem setPending_admission : (s.setPending x).admission = s.admission := rfl
@[simp] theorem setPending_load : (s.setPending x).load = s.load := rfl
@[simp] theorem setPending_tables : (s.setPending x).tables = s.tables := rfl
@[simp] theorem setPending_engine : (s.setPending x).engine = s.engine := rfl
@[simp] theorem setPending_store : (s.setPending x).store = s.store := rfl
@[simp] theorem setPending_tracker : (s.setPending x).tracker = s.tracker := rfl
@[simp] theorem setPending_weft : (s.setPending x).weft = s.weft := rfl
@[simp] theorem setPending_selector : (s.setPending x).selector = s.selector := rfl
@[simp] theorem setPending_health : (s.setPending x).health = s.health := rfl
@[simp] theorem setPending_control : (s.setPending x).control = s.control := rfl
@[simp] theorem setPending_draws : (s.setPending x).draws = s.draws := rfl
@[simp] theorem setPending_pending : (s.setPending x).pending = x := rfl
end

/-- Two states that agree in every field are equal. -/
theorem state_ext {s t : State}
    (h0 : s.port = t.port) (h1 : s.admission = t.admission) (h2 : s.load = t.load) (h3 : s.tables = t.tables) (h4 : s.engine = t.engine)
    (h5 : s.store = t.store) (h6 : s.tracker = t.tracker) (h7 : s.weft = t.weft) (h8 : s.selector = t.selector) (h9 : s.health = t.health)
    (h10 : s.control = t.control) (h11 : s.draws = t.draws) (h12 : s.pending = t.pending) : s = t := by
  cases s; cases t; simp_all

/-! A setter after itself, and a setter that sets what is there. -/

@[simp] theorem setPort_setPort (s : State) (x y : RingPort) : (s.setPort x).setPort y = s.setPort y := rfl
@[simp] theorem setPort_self (s : State) : s.setPort s.port = s := rfl
@[simp] theorem setAdmission_setAdmission (s : State) (x y : Admission) : (s.setAdmission x).setAdmission y = s.setAdmission y := rfl
@[simp] theorem setAdmission_self (s : State) : s.setAdmission s.admission = s := rfl
@[simp] theorem setLoad_setLoad (s : State) (x y : Option Load) : (s.setLoad x).setLoad y = s.setLoad y := rfl
@[simp] theorem setLoad_self (s : State) : s.setLoad s.load = s := rfl
@[simp] theorem setTables_setTables (s : State) (x y : Tables) : (s.setTables x).setTables y = s.setTables y := rfl
@[simp] theorem setTables_self (s : State) : s.setTables s.tables = s := rfl
@[simp] theorem setEngine_setEngine (s : State) (x y : Engine) : (s.setEngine x).setEngine y = s.setEngine y := rfl
@[simp] theorem setEngine_self (s : State) : s.setEngine s.engine = s := rfl
@[simp] theorem setStore_setStore (s : State) (x y : PickStore) : (s.setStore x).setStore y = s.setStore y := rfl
@[simp] theorem setStore_self (s : State) : s.setStore s.store = s := rfl
@[simp] theorem setTracker_setTracker (s : State) (x y : Tracker) : (s.setTracker x).setTracker y = s.setTracker y := rfl
@[simp] theorem setTracker_self (s : State) : s.setTracker s.tracker = s := rfl
@[simp] theorem setWeft_setWeft (s : State) (x y : WeftUnit) : (s.setWeft x).setWeft y = s.setWeft y := rfl
@[simp] theorem setWeft_self (s : State) : s.setWeft s.weft = s := rfl
@[simp] theorem setSelector_setSelector (s : State) (x y : Selector) : (s.setSelector x).setSelector y = s.setSelector y := rfl
@[simp] theorem setSelector_self (s : State) : s.setSelector s.selector = s := rfl
@[simp] theorem setHealth_setHealth (s : State) (x y : Health) : (s.setHealth x).setHealth y = s.setHealth y := rfl
@[simp] theorem setHealth_self (s : State) : s.setHealth s.health = s := rfl
@[simp] theorem setControl_setControl (s : State) (x y : Control) : (s.setControl x).setControl y = s.setControl y := rfl
@[simp] theorem setControl_self (s : State) : s.setControl s.control = s := rfl
@[simp] theorem setDraws_setDraws (s : State) (x y : Nat) : (s.setDraws x).setDraws y = s.setDraws y := rfl
@[simp] theorem setDraws_self (s : State) : s.setDraws s.draws = s := rfl
@[simp] theorem setPending_setPending (s : State) (x y : List Instr) : (s.setPending x).setPending y = s.setPending y := rfl
@[simp] theorem setPending_self (s : State) : s.setPending s.pending = s := rfl

end Sys2Proof.Machine
end

