-- ==== Sys2Proof/Laws/HealthFrame.lean ====
section
/-! SUPPORT. What each event and Hook Health operation leaves unchanged, said once for each. -/

namespace Sys2Proof.Machine

@[simp] theorem raise_frame (k : EventKind) (s : State) :
    (raise k s).port = s.port ∧ (raise k s).admission = s.admission ∧ (raise k s).load = s.load ∧
    (raise k s).tables = s.tables ∧ (raise k s).engine = s.engine ∧ (raise k s).store = s.store ∧
    (raise k s).tracker = s.tracker ∧ (raise k s).weft = s.weft ∧ (raise k s).selector = s.selector ∧
    (raise k s).health = s.health ∧ (raise k s).draws = s.draws ∧ (raise k s).pending = s.pending := by
  simp [raise]

@[simp] theorem setNode_frame (n : NodeState) (s : State) :
    (setNode n s).port = s.port ∧ (setNode n s).admission = s.admission ∧ (setNode n s).load = s.load ∧
    (setNode n s).tables = s.tables ∧ (setNode n s).engine = s.engine ∧ (setNode n s).store = s.store ∧
    (setNode n s).tracker = s.tracker ∧ (setNode n s).weft = s.weft ∧ (setNode n s).selector = s.selector ∧
    (setNode n s).health = s.health ∧ (setNode n s).draws = s.draws ∧ (setNode n s).pending = s.pending ∧
    (setNode n s).control.events = s.control.events := by
  simp [setNode]

@[simp] theorem disarmEvents_frame (s : State) :
    (disarmEvents s).port = s.port ∧ (disarmEvents s).admission = s.admission ∧ (disarmEvents s).load = s.load ∧
    (disarmEvents s).tables = s.tables ∧ (disarmEvents s).engine = s.engine ∧ (disarmEvents s).store = s.store ∧
    (disarmEvents s).weft = s.weft ∧ (disarmEvents s).selector = s.selector ∧ (disarmEvents s).health = s.health ∧
    (disarmEvents s).control = s.control ∧ (disarmEvents s).draws = s.draws ∧
    (disarmEvents s).pending = s.pending := by
  simp [disarmEvents]

@[simp] theorem armEvents_frame (s : State) :
    (armEvents s).port = s.port ∧ (armEvents s).admission = s.admission ∧ (armEvents s).load = s.load ∧
    (armEvents s).tables = s.tables ∧ (armEvents s).engine = s.engine ∧ (armEvents s).store = s.store ∧
    (armEvents s).weft = s.weft ∧ (armEvents s).selector = s.selector ∧ (armEvents s).health = s.health ∧
    (armEvents s).control = s.control ∧ (armEvents s).draws = s.draws ∧ (armEvents s).pending = s.pending := by
  simp [armEvents]

@[simp] theorem closeWindow_frame (s : State) :
    (closeWindow s).port = s.port ∧ (closeWindow s).admission = s.admission ∧ (closeWindow s).load = s.load ∧
    (closeWindow s).tables = s.tables ∧ (closeWindow s).engine = s.engine ∧ (closeWindow s).store = s.store ∧
    (closeWindow s).tracker = s.tracker ∧ (closeWindow s).selector = s.selector ∧
    (closeWindow s).health = s.health ∧ (closeWindow s).control = s.control ∧ (closeWindow s).draws = s.draws ∧
    (closeWindow s).pending = s.pending := by
  simp [closeWindow]

@[simp] theorem setFeeder_frame (n : Nat) (s : State) :
    (setFeeder n s).port = s.port ∧ (setFeeder n s).admission = s.admission ∧ (setFeeder n s).load = s.load ∧
    (setFeeder n s).tables = s.tables ∧ (setFeeder n s).engine = s.engine ∧ (setFeeder n s).store = s.store ∧
    (setFeeder n s).tracker = s.tracker ∧ (setFeeder n s).selector = s.selector ∧
    (setFeeder n s).health = s.health ∧ (setFeeder n s).control = s.control ∧ (setFeeder n s).draws = s.draws ∧
    (setFeeder n s).pending = s.pending := by
  simp [setFeeder]

@[simp] theorem setModule_frame (c : Fin 6) (k : Nat) (r : ModuleRecord) (s : State) :
    (setModule c k r s).port = s.port ∧ (setModule c k r s).admission = s.admission ∧
    (setModule c k r s).load = s.load ∧ (setModule c k r s).tables = s.tables ∧
    (setModule c k r s).engine = s.engine ∧ (setModule c k r s).store = s.store ∧
    (setModule c k r s).tracker = s.tracker ∧ (setModule c k r s).weft = s.weft ∧
    (setModule c k r s).selector = s.selector ∧ (setModule c k r s).control = s.control ∧
    (setModule c k r s).draws = s.draws ∧ (setModule c k r s).pending = s.pending ∧
    (setModule c k r s).health.faultMap = s.health.faultMap ∧
    (setModule c k r s).health.overflow = s.health.overflow ∧
    (setModule c k r s).health.restTime = s.health.restTime := by
  simp [setModule]

@[simp] theorem settleHook_frame (h : Nat) (b : Bool) (s : State) :
    (settleHook h b s).port = s.port ∧ (settleHook h b s).admission = s.admission ∧
    (settleHook h b s).load = s.load ∧ (settleHook h b s).tables = s.tables ∧ (settleHook h b s).store = s.store ∧
    (settleHook h b s).tracker = s.tracker ∧ (settleHook h b s).weft = s.weft ∧
    (settleHook h b s).selector = s.selector ∧ (settleHook h b s).health = s.health ∧
    (settleHook h b s).control = s.control ∧ (settleHook h b s).pending = s.pending ∧
    (settleHook h b s).engine.rowCounters = s.engine.rowCounters ∧
    (settleHook h b s).engine.backlog = s.engine.backlog := by
  unfold settleHook; split <;> simp

@[simp] theorem listHook_frame (e : FaultEntry) (s : State) :
    (listHook e s).port = s.port ∧ (listHook e s).admission = s.admission ∧ (listHook e s).load = s.load ∧
    (listHook e s).tables = s.tables ∧ (listHook e s).store = s.store ∧ (listHook e s).tracker = s.tracker ∧
    (listHook e s).weft = s.weft ∧ (listHook e s).selector = s.selector ∧ (listHook e s).pending = s.pending ∧
    (listHook e s).engine.rowCounters = s.engine.rowCounters ∧ (listHook e s).engine.backlog = s.engine.backlog := by
  simp [listHook]

@[simp] theorem latchIfFull_frame (c : Fin 6) (k : Nat) (s : State) :
    (latchIfFull c k s).port = s.port ∧ (latchIfFull c k s).admission = s.admission ∧
    (latchIfFull c k s).load = s.load ∧ (latchIfFull c k s).tables = s.tables ∧
    (latchIfFull c k s).engine = s.engine ∧ (latchIfFull c k s).store = s.store ∧
    (latchIfFull c k s).tracker = s.tracker ∧ (latchIfFull c k s).weft = s.weft ∧
    (latchIfFull c k s).selector = s.selector ∧ (latchIfFull c k s).draws = s.draws ∧
    (latchIfFull c k s).pending = s.pending ∧ (latchIfFull c k s).health.faultMap = s.health.faultMap ∧
    (latchIfFull c k s).health.overflow = s.health.overflow ∧
    (latchIfFull c k s).health.restTime = s.health.restTime := by
  unfold latchIfFull; repeat' split
  all_goals simp

@[simp] theorem takeFinding_frame (c : Fin 6) (k : Nat) (e : FaultEntry) (s : State) :
    (takeFinding c k e s).port = s.port ∧ (takeFinding c k e s).admission = s.admission ∧
    (takeFinding c k e s).load = s.load ∧ (takeFinding c k e s).tables = s.tables ∧
    (takeFinding c k e s).store = s.store ∧ (takeFinding c k e s).tracker = s.tracker ∧
    (takeFinding c k e s).weft = s.weft ∧ (takeFinding c k e s).selector = s.selector ∧
    (takeFinding c k e s).pending = s.pending ∧ (takeFinding c k e s).engine.rowCounters = s.engine.rowCounters ∧
    (takeFinding c k e s).engine.backlog = s.engine.backlog := by
  unfold takeFinding; repeat' split
  all_goals simp

@[simp] theorem strike_frame (c : Fin 6) (k : Nat) (r : ModuleRecord) (s : State) :
    (strike c k r s).port = s.port ∧ (strike c k r s).admission = s.admission ∧ (strike c k r s).load = s.load ∧
    (strike c k r s).tables = s.tables ∧ (strike c k r s).engine = s.engine ∧ (strike c k r s).store = s.store ∧
    (strike c k r s).tracker = s.tracker ∧ (strike c k r s).weft = s.weft ∧
    (strike c k r s).selector = s.selector ∧ (strike c k r s).draws = s.draws ∧
    (strike c k r s).pending = s.pending ∧ (strike c k r s).health.faultMap = s.health.faultMap ∧
    (strike c k r s).health.overflow = s.health.overflow ∧ (strike c k r s).health.restTime = s.health.restTime := by
  unfold strike; split <;> simp

@[simp] theorem cleanShift_frame (c : Fin 6) (k : Nat) (r : ModuleRecord) (s : State) :
    (cleanShift c k r s).port = s.port ∧ (cleanShift c k r s).admission = s.admission ∧
    (cleanShift c k r s).load = s.load ∧ (cleanShift c k r s).tables = s.tables ∧
    (cleanShift c k r s).engine = s.engine ∧ (cleanShift c k r s).store = s.store ∧
    (cleanShift c k r s).tracker = s.tracker ∧ (cleanShift c k r s).weft = s.weft ∧
    (cleanShift c k r s).selector = s.selector ∧ (cleanShift c k r s).control = s.control ∧
    (cleanShift c k r s).draws = s.draws ∧ (cleanShift c k r s).pending = s.pending ∧
    (cleanShift c k r s).health.faultMap = s.health.faultMap ∧
    (cleanShift c k r s).health.overflow = s.health.overflow ∧
    (cleanShift c k r s).health.restTime = s.health.restTime := by
  unfold cleanShift; split <;> simp

@[simp] theorem takeOvercurrent_frame (c : Fin 6) (k : Nat) (b : Bool) (s : State) :
    (takeOvercurrent c k b s).port = s.port ∧ (takeOvercurrent c k b s).admission = s.admission ∧
    (takeOvercurrent c k b s).load = s.load ∧ (takeOvercurrent c k b s).tables = s.tables ∧
    (takeOvercurrent c k b s).engine = s.engine ∧ (takeOvercurrent c k b s).store = s.store ∧
    (takeOvercurrent c k b s).tracker = s.tracker ∧ (takeOvercurrent c k b s).weft = s.weft ∧
    (takeOvercurrent c k b s).selector = s.selector ∧ (takeOvercurrent c k b s).draws = s.draws ∧
    (takeOvercurrent c k b s).pending = s.pending ∧ (takeOvercurrent c k b s).health.faultMap = s.health.faultMap ∧
    (takeOvercurrent c k b s).health.overflow = s.health.overflow ∧
    (takeOvercurrent c k b s).health.restTime = s.health.restTime := by
  unfold takeOvercurrent; repeat' split
  all_goals simp

@[simp] theorem loseModule_frame (c : Fin 6) (k : Nat) (r : ModuleRecord) (s : State) :
    (loseModule c k r s).port = s.port ∧ (loseModule c k r s).admission = s.admission ∧
    (loseModule c k r s).load = s.load ∧ (loseModule c k r s).tables = s.tables ∧
    (loseModule c k r s).engine = s.engine ∧ (loseModule c k r s).store = s.store ∧
    (loseModule c k r s).tracker = s.tracker ∧ (loseModule c k r s).weft = s.weft ∧
    (loseModule c k r s).selector = s.selector ∧ (loseModule c k r s).draws = s.draws ∧
    (loseModule c k r s).pending = s.pending ∧ (loseModule c k r s).health.faultMap = s.health.faultMap ∧
    (loseModule c k r s).health.overflow = s.health.overflow ∧
    (loseModule c k r s).health.restTime = s.health.restTime := by
  unfold loseModule; split <;> simp

@[simp] theorem takeFindings_frame (latch : Shift) (c : Fin 6) (k h : Nat) (fs : List Finding) (s : State) :
    (takeFindings latch c k h fs s).port = s.port ∧ (takeFindings latch c k h fs s).admission = s.admission ∧
    (takeFindings latch c k h fs s).load = s.load ∧ (takeFindings latch c k h fs s).tables = s.tables ∧
    (takeFindings latch c k h fs s).store = s.store ∧ (takeFindings latch c k h fs s).tracker = s.tracker ∧
    (takeFindings latch c k h fs s).weft = s.weft ∧ (takeFindings latch c k h fs s).selector = s.selector ∧
    (takeFindings latch c k h fs s).pending = s.pending ∧
    (takeFindings latch c k h fs s).engine.rowCounters = s.engine.rowCounters ∧
    (takeFindings latch c k h fs s).engine.backlog = s.engine.backlog := by
  induction fs generalizing h s with
  | nil => simp [takeFindings]
  | cons f fs ih =>
    simp only [takeFindings, ih]
    split <;> simp

@[simp] theorem takePresent_frame (latch : Shift) (c : Fin 6) (k : Nat) (w : StatusWord) (r : ModuleRecord) (s : State) :
    (takePresent latch c k w r s).port = s.port ∧ (takePresent latch c k w r s).admission = s.admission ∧
    (takePresent latch c k w r s).load = s.load ∧ (takePresent latch c k w r s).tables = s.tables ∧
    (takePresent latch c k w r s).store = s.store ∧ (takePresent latch c k w r s).tracker = s.tracker ∧
    (takePresent latch c k w r s).weft = s.weft ∧ (takePresent latch c k w r s).selector = s.selector ∧
    (takePresent latch c k w r s).pending = s.pending ∧
    (takePresent latch c k w r s).engine.rowCounters = s.engine.rowCounters ∧
    (takePresent latch c k w r s).engine.backlog = s.engine.backlog := by
  unfold takePresent; split <;> simp

@[simp] theorem judgeChain_frame (c : Fin 6) (b : Bool) (s : State) :
    (judgeChain c b s).port = s.port ∧ (judgeChain c b s).admission = s.admission ∧
    (judgeChain c b s).load = s.load ∧ (judgeChain c b s).tables = s.tables ∧
    (judgeChain c b s).engine = s.engine ∧ (judgeChain c b s).store = s.store ∧
    (judgeChain c b s).tracker = s.tracker ∧ (judgeChain c b s).weft = s.weft ∧
    (judgeChain c b s).selector = s.selector ∧ (judgeChain c b s).health = s.health ∧
    (judgeChain c b s).draws = s.draws ∧ (judgeChain c b s).pending = s.pending := by
  unfold judgeChain; split <;> simp

@[simp] theorem takeWord_frame (latch : Shift) (c : Fin 6) (k : Nat) (w : StatusWord) (s : State) :
    (takeWord latch c k w s).port = s.port ∧ (takeWord latch c k w s).admission = s.admission ∧
    (takeWord latch c k w s).load = s.load ∧ (takeWord latch c k w s).tables = s.tables ∧
    (takeWord latch c k w s).store = s.store ∧ (takeWord latch c k w s).tracker = s.tracker ∧
    (takeWord latch c k w s).weft = s.weft ∧ (takeWord latch c k w s).selector = s.selector ∧
    (takeWord latch c k w s).pending = s.pending ∧
    (takeWord latch c k w s).engine.rowCounters = s.engine.rowCounters ∧
    (takeWord latch c k w s).engine.backlog = s.engine.backlog := by
  unfold takeWord; repeat' split
  all_goals simp

@[simp] theorem takeChain_frame (latch : Shift) (c : Fin 6) (k n : Nat) (ws : List StatusWord) (s : State) :
    (takeChain latch c k n ws s).port = s.port ∧ (takeChain latch c k n ws s).admission = s.admission ∧
    (takeChain latch c k n ws s).load = s.load ∧ (takeChain latch c k n ws s).tables = s.tables ∧
    (takeChain latch c k n ws s).store = s.store ∧ (takeChain latch c k n ws s).tracker = s.tracker ∧
    (takeChain latch c k n ws s).weft = s.weft ∧ (takeChain latch c k n ws s).selector = s.selector ∧
    (takeChain latch c k n ws s).pending = s.pending ∧
    (takeChain latch c k n ws s).engine.rowCounters = s.engine.rowCounters ∧
    (takeChain latch c k n ws s).engine.backlog = s.engine.backlog := by
  induction n generalizing k ws s with
  | zero => simp [takeChain]
  | succ n ih => simp [takeChain, ih]

@[simp] theorem takeStatus_frame (latch : Shift) (status : List (List StatusWord)) (s : State) :
    (takeStatus latch status s).port = s.port ∧ (takeStatus latch status s).admission = s.admission ∧
    (takeStatus latch status s).load = s.load ∧ (takeStatus latch status s).tables = s.tables ∧
    (takeStatus latch status s).store = s.store ∧ (takeStatus latch status s).tracker = s.tracker ∧
    (takeStatus latch status s).weft = s.weft ∧ (takeStatus latch status s).selector = s.selector ∧
    (takeStatus latch status s).pending = s.pending ∧
    (takeStatus latch status s).engine.rowCounters = s.engine.rowCounters ∧
    (takeStatus latch status s).engine.backlog = s.engine.backlog := by
  simp [takeStatus]

@[simp] theorem expireRest_frame (c : Fin 6) (k : Nat) (s : State) :
    (expireRest c k s).port = s.port ∧ (expireRest c k s).admission = s.admission ∧
    (expireRest c k s).load = s.load ∧ (expireRest c k s).tables = s.tables ∧
    (expireRest c k s).engine = s.engine ∧ (expireRest c k s).store = s.store ∧
    (expireRest c k s).tracker = s.tracker ∧ (expireRest c k s).weft = s.weft ∧
    (expireRest c k s).selector = s.selector ∧ (expireRest c k s).control = s.control ∧
    (expireRest c k s).draws = s.draws ∧ (expireRest c k s).pending = s.pending ∧
    (expireRest c k s).health.faultMap = s.health.faultMap ∧
    (expireRest c k s).health.overflow = s.health.overflow ∧
    (expireRest c k s).health.restTime = s.health.restTime := by
  unfold expireRest; repeat' split
  all_goals simp

@[simp] theorem releaseModule_frame (c : Fin 6) (k : Nat) (s : State) :
    (releaseModule c k s).port = s.port ∧ (releaseModule c k s).admission = s.admission ∧
    (releaseModule c k s).load = s.load ∧ (releaseModule c k s).tables = s.tables ∧
    (releaseModule c k s).engine = s.engine ∧ (releaseModule c k s).store = s.store ∧
    (releaseModule c k s).tracker = s.tracker ∧ (releaseModule c k s).weft = s.weft ∧
    (releaseModule c k s).selector = s.selector ∧ (releaseModule c k s).control = s.control ∧
    (releaseModule c k s).draws = s.draws ∧ (releaseModule c k s).pending = s.pending ∧
    (releaseModule c k s).health.faultMap = s.health.faultMap ∧
    (releaseModule c k s).health.overflow = s.health.overflow ∧
    (releaseModule c k s).health.restTime = s.health.restTime := by
  simp [releaseModule]

@[simp] theorem settleListed_frame (m : List FaultEntry) (s : State) :
    (settleListed m s).port = s.port ∧ (settleListed m s).admission = s.admission ∧
    (settleListed m s).load = s.load ∧ (settleListed m s).tables = s.tables ∧ (settleListed m s).store = s.store ∧
    (settleListed m s).tracker = s.tracker ∧ (settleListed m s).weft = s.weft ∧
    (settleListed m s).selector = s.selector ∧ (settleListed m s).health = s.health ∧
    (settleListed m s).control = s.control ∧ (settleListed m s).pending = s.pending ∧
    (settleListed m s).engine.rowCounters = s.engine.rowCounters ∧
    (settleListed m s).engine.backlog = s.engine.backlog := by
  induction m generalizing s with
  | nil => simp [settleListed]
  | cons e m ih => simp [settleListed, ih]

@[simp] theorem clearMap_frame (s : State) :
    (clearMap s).port = s.port ∧ (clearMap s).admission = s.admission ∧ (clearMap s).load = s.load ∧
    (clearMap s).tables = s.tables ∧ (clearMap s).store = s.store ∧ (clearMap s).tracker = s.tracker ∧
    (clearMap s).weft = s.weft ∧ (clearMap s).selector = s.selector ∧ (clearMap s).control = s.control ∧
    (clearMap s).pending = s.pending ∧ (clearMap s).engine.rowCounters = s.engine.rowCounters ∧
    (clearMap s).engine.backlog = s.engine.backlog := by
  simp [clearMap]

end Sys2Proof.Machine
end

