-- ==== Sys2Proof/Laws/SelectorFrame.lean ====
section
/-! SUPPORT. What each operation of the Selector Interface and of the Pick Store leaves unchanged, said once for each. -/

namespace Sys2Proof.Machine

@[simp] theorem startShift_frame (kind : ShiftKind) (s : State) :
    (startShift kind s).port = s.port ∧ (startShift kind s).admission = s.admission ∧
    (startShift kind s).load = s.load ∧ (startShift kind s).tables = s.tables ∧
    (startShift kind s).engine = s.engine ∧ (startShift kind s).store = s.store ∧
    (startShift kind s).tracker = s.tracker ∧ (startShift kind s).weft = s.weft ∧
    (startShift kind s).health = s.health ∧ (startShift kind s).control = s.control ∧
    (startShift kind s).draws = s.draws ∧ (startShift kind s).pending = s.pending ∧
    (startShift kind s).selector.chains = s.selector.chains ∧
    (startShift kind s).selector.sizing = s.selector.sizing ∧
    (startShift kind s).selector.pending = s.selector.pending := by
  unfold startShift; split <;> simp

@[simp] theorem setPendingShift_frame (p : Option ShiftKind) (s : State) :
    (setPendingShift p s).port = s.port ∧ (setPendingShift p s).admission = s.admission ∧
    (setPendingShift p s).load = s.load ∧ (setPendingShift p s).tables = s.tables ∧
    (setPendingShift p s).engine = s.engine ∧ (setPendingShift p s).store = s.store ∧
    (setPendingShift p s).tracker = s.tracker ∧ (setPendingShift p s).weft = s.weft ∧
    (setPendingShift p s).health = s.health ∧ (setPendingShift p s).control = s.control ∧
    (setPendingShift p s).draws = s.draws ∧ (setPendingShift p s).pending = s.pending ∧
    (setPendingShift p s).selector.chains = s.selector.chains ∧
    (setPendingShift p s).selector.sizing = s.selector.sizing ∧
    (setPendingShift p s).selector.shift = s.selector.shift ∧
    (setPendingShift p s).selector.latch = s.selector.latch := by
  simp [setPendingShift]

@[simp] theorem requestPattern_frame (s : State) :
    (requestPattern s).port = s.port ∧ (requestPattern s).admission = s.admission ∧
    (requestPattern s).load = s.load ∧ (requestPattern s).tables = s.tables ∧
    (requestPattern s).engine = s.engine ∧ (requestPattern s).store = s.store ∧
    (requestPattern s).tracker = s.tracker ∧ (requestPattern s).weft = s.weft ∧
    (requestPattern s).health = s.health ∧ (requestPattern s).draws = s.draws ∧
    (requestPattern s).pending = s.pending ∧ (requestPattern s).selector.chains = s.selector.chains ∧
    (requestPattern s).selector.sizing = s.selector.sizing := by
  unfold requestPattern; split <;> simp

@[simp] theorem idleEntryShift_frame (s : State) :
    (idleEntryShift s).port = s.port ∧ (idleEntryShift s).admission = s.admission ∧
    (idleEntryShift s).load = s.load ∧ (idleEntryShift s).tables = s.tables ∧
    (idleEntryShift s).engine = s.engine ∧ (idleEntryShift s).store = s.store ∧
    (idleEntryShift s).tracker = s.tracker ∧ (idleEntryShift s).weft = s.weft ∧
    (idleEntryShift s).health = s.health ∧ (idleEntryShift s).control = s.control ∧
    (idleEntryShift s).draws = s.draws ∧ (idleEntryShift s).pending = s.pending ∧
    (idleEntryShift s).selector.chains = s.selector.chains ∧
    (idleEntryShift s).selector.sizing = s.selector.sizing := by
  unfold idleEntryShift; repeat' split
  all_goals simp

@[simp] theorem latchShift_frame (sh : Shift) (s : State) :
    (latchShift sh s).port = s.port ∧ (latchShift sh s).admission = s.admission ∧ (latchShift sh s).load = s.load ∧
    (latchShift sh s).tables = s.tables ∧ (latchShift sh s).engine = s.engine ∧ (latchShift sh s).store = s.store ∧
    (latchShift sh s).tracker = s.tracker ∧ (latchShift sh s).weft = s.weft ∧ (latchShift sh s).health = s.health ∧
    (latchShift sh s).control = s.control ∧ (latchShift sh s).draws = s.draws ∧
    (latchShift sh s).pending = s.pending ∧ (latchShift sh s).selector.chains = s.selector.chains ∧
    (latchShift sh s).selector.sizing = s.selector.sizing ∧
    (latchShift sh s).selector.pending = s.selector.pending := by
  simp [latchShift]

@[simp] theorem startPending_frame (s : State) :
    (startPending s).port = s.port ∧ (startPending s).admission = s.admission ∧ (startPending s).load = s.load ∧
    (startPending s).tables = s.tables ∧ (startPending s).engine = s.engine ∧ (startPending s).store = s.store ∧
    (startPending s).tracker = s.tracker ∧ (startPending s).weft = s.weft ∧ (startPending s).health = s.health ∧
    (startPending s).control = s.control ∧ (startPending s).draws = s.draws ∧
    (startPending s).pending = s.pending ∧ (startPending s).selector.chains = s.selector.chains ∧
    (startPending s).selector.sizing = s.selector.sizing := by
  unfold startPending; split <;> simp

@[simp] theorem endShift_frame (status : List (List StatusWord)) (s : State) :
    (endShift status s).port = s.port ∧ (endShift status s).admission = s.admission ∧
    (endShift status s).load = s.load ∧ (endShift status s).tables = s.tables ∧
    (endShift status s).store = s.store ∧ (endShift status s).tracker = s.tracker ∧
    (endShift status s).weft = s.weft ∧ (endShift status s).pending = s.pending ∧
    (endShift status s).engine.rowCounters = s.engine.rowCounters ∧
    (endShift status s).engine.backlog = s.engine.backlog ∧
    (endShift status s).selector.chains = s.selector.chains ∧
    (endShift status s).selector.sizing = s.selector.sizing := by
  unfold endShift; split <;> simp

@[simp] theorem beginSizing_frame (s : State) :
    (beginSizing s).port = s.port ∧ (beginSizing s).admission = s.admission ∧ (beginSizing s).load = s.load ∧
    (beginSizing s).tables = s.tables ∧ (beginSizing s).engine = s.engine ∧ (beginSizing s).store = s.store ∧
    (beginSizing s).tracker = s.tracker ∧ (beginSizing s).weft = s.weft ∧ (beginSizing s).health = s.health ∧
    (beginSizing s).control = s.control ∧ (beginSizing s).draws = s.draws ∧ (beginSizing s).pending = s.pending ∧
    (beginSizing s).selector.latch = s.selector.latch := by
  simp [beginSizing]

@[simp] theorem endFlush_frame (s : State) :
    (endFlush s).port = s.port ∧ (endFlush s).admission = s.admission ∧ (endFlush s).load = s.load ∧
    (endFlush s).tables = s.tables ∧ (endFlush s).engine = s.engine ∧ (endFlush s).store = s.store ∧
    (endFlush s).tracker = s.tracker ∧ (endFlush s).weft = s.weft ∧ (endFlush s).health = s.health ∧
    (endFlush s).control = s.control ∧ (endFlush s).draws = s.draws ∧ (endFlush s).pending = s.pending ∧
    (endFlush s).selector.chains = s.selector.chains ∧ (endFlush s).selector.shift = s.selector.shift ∧
    (endFlush s).selector.pending = s.selector.pending := by
  unfold endFlush; split <;> simp

@[simp] theorem completeSizing_frame (v : Vector ChainSize 6) (s : State) :
    (completeSizing v s).port = s.port ∧ (completeSizing v s).admission = s.admission ∧
    (completeSizing v s).load = s.load ∧ (completeSizing v s).tables = s.tables ∧
    (completeSizing v s).engine = s.engine ∧ (completeSizing v s).store = s.store ∧
    (completeSizing v s).tracker = s.tracker ∧ (completeSizing v s).weft = s.weft ∧
    (completeSizing v s).draws = s.draws ∧ (completeSizing v s).pending = s.pending ∧
    (completeSizing v s).selector.shift = s.selector.shift ∧
    (completeSizing v s).selector.pending = s.selector.pending ∧
    (completeSizing v s).health.faultMap = s.health.faultMap ∧
    (completeSizing v s).control.events = s.control.events := by
  simp [completeSizing]

@[simp] theorem completeIfAll_frame (v : Vector (Option ChainSize) 6) (s : State) :
    (completeIfAll v s).port = s.port ∧ (completeIfAll v s).admission = s.admission ∧
    (completeIfAll v s).load = s.load ∧ (completeIfAll v s).tables = s.tables ∧
    (completeIfAll v s).engine = s.engine ∧ (completeIfAll v s).store = s.store ∧
    (completeIfAll v s).tracker = s.tracker ∧ (completeIfAll v s).weft = s.weft ∧
    (completeIfAll v s).draws = s.draws ∧ (completeIfAll v s).pending = s.pending ∧
    (completeIfAll v s).selector.shift = s.selector.shift ∧
    (completeIfAll v s).selector.pending = s.selector.pending ∧
    (completeIfAll v s).health.faultMap = s.health.faultMap ∧
    (completeIfAll v s).control.events = s.control.events := by
  unfold completeIfAll; split <;> simp

@[simp] theorem endMarkerPass_frame (c : Fin 6) (p : Option (Fin 4096)) (s : State) :
    (endMarkerPass c p s).port = s.port ∧ (endMarkerPass c p s).admission = s.admission ∧
    (endMarkerPass c p s).load = s.load ∧ (endMarkerPass c p s).tables = s.tables ∧
    (endMarkerPass c p s).engine = s.engine ∧ (endMarkerPass c p s).store = s.store ∧
    (endMarkerPass c p s).tracker = s.tracker ∧ (endMarkerPass c p s).weft = s.weft ∧
    (endMarkerPass c p s).draws = s.draws ∧ (endMarkerPass c p s).pending = s.pending ∧
    (endMarkerPass c p s).selector.shift = s.selector.shift ∧
    (endMarkerPass c p s).selector.pending = s.selector.pending ∧
    (endMarkerPass c p s).health.faultMap = s.health.faultMap := by
  unfold endMarkerPass; repeat' split
  all_goals simp

@[simp] theorem starvedCrossing_frame (s : State) :
    (starvedCrossing s).port = s.port ∧ (starvedCrossing s).admission = s.admission ∧
    (starvedCrossing s).load = s.load ∧ (starvedCrossing s).tables = s.tables ∧
    (starvedCrossing s).engine = s.engine ∧ (starvedCrossing s).tracker = s.tracker ∧
    (starvedCrossing s).weft = s.weft ∧ (starvedCrossing s).selector = s.selector ∧
    (starvedCrossing s).health = s.health ∧ (starvedCrossing s).draws = s.draws ∧
    (starvedCrossing s).pending = s.pending ∧ (starvedCrossing s).store.queue = s.store.queue ∧
    (starvedCrossing s).store.rewind = s.store.rewind ∧ (starvedCrossing s).store.overshoot = s.store.overshoot ∧
    (starvedCrossing s).store.woven = s.store.woven := by
  simp [starvedCrossing]

@[simp] theorem forwardCase_frame (s : State) :
    (forwardCase s).port = s.port ∧ (forwardCase s).admission = s.admission ∧ (forwardCase s).load = s.load ∧
    (forwardCase s).tables = s.tables ∧ (forwardCase s).engine = s.engine ∧ (forwardCase s).tracker = s.tracker ∧
    (forwardCase s).weft = s.weft ∧ (forwardCase s).selector = s.selector ∧ (forwardCase s).health = s.health ∧
    (forwardCase s).draws = s.draws ∧ (forwardCase s).pending = s.pending ∧
    (forwardCase s).store.woven = s.store.woven := by
  unfold forwardCase; repeat' split
  all_goals simp

@[simp] theorem countWoven_frame (s : State) :
    (countWoven s).port = s.port ∧ (countWoven s).admission = s.admission ∧ (countWoven s).load = s.load ∧
    (countWoven s).tables = s.tables ∧ (countWoven s).engine = s.engine ∧ (countWoven s).tracker = s.tracker ∧
    (countWoven s).weft = s.weft ∧ (countWoven s).selector = s.selector ∧ (countWoven s).health = s.health ∧
    (countWoven s).control = s.control ∧ (countWoven s).draws = s.draws ∧ (countWoven s).pending = s.pending ∧
    (countWoven s).store.queue = s.store.queue ∧ (countWoven s).store.history = s.store.history ∧
    (countWoven s).store.rewind = s.store.rewind ∧ (countWoven s).store.overshoot = s.store.overshoot := by
  simp [countWoven]

@[simp] theorem storeForward_frame (s : State) :
    (storeForward s).port = s.port ∧ (storeForward s).admission = s.admission ∧ (storeForward s).load = s.load ∧
    (storeForward s).tables = s.tables ∧ (storeForward s).engine = s.engine ∧
    (storeForward s).tracker = s.tracker ∧ (storeForward s).weft = s.weft ∧ (storeForward s).health = s.health ∧
    (storeForward s).draws = s.draws ∧ (storeForward s).pending = s.pending ∧
    (storeForward s).selector.chains = s.selector.chains ∧ (storeForward s).selector.sizing = s.selector.sizing := by
  simp [storeForward]

@[simp] theorem reverseCase_frame (s : State) :
    (reverseCase s).port = s.port ∧ (reverseCase s).admission = s.admission ∧ (reverseCase s).load = s.load ∧
    (reverseCase s).tables = s.tables ∧ (reverseCase s).engine = s.engine ∧ (reverseCase s).tracker = s.tracker ∧
    (reverseCase s).weft = s.weft ∧ (reverseCase s).selector = s.selector ∧ (reverseCase s).health = s.health ∧
    (reverseCase s).draws = s.draws ∧ (reverseCase s).pending = s.pending ∧
    (reverseCase s).store.queue = s.store.queue ∧ (reverseCase s).store.history = s.store.history ∧
    (reverseCase s).store.woven = s.store.woven := by
  unfold reverseCase; split <;> simp

@[simp] theorem storeReverse_frame (s : State) :
    (storeReverse s).port = s.port ∧ (storeReverse s).admission = s.admission ∧ (storeReverse s).load = s.load ∧
    (storeReverse s).tables = s.tables ∧ (storeReverse s).engine = s.engine ∧
    (storeReverse s).tracker = s.tracker ∧ (storeReverse s).weft = s.weft ∧ (storeReverse s).health = s.health ∧
    (storeReverse s).draws = s.draws ∧ (storeReverse s).pending = s.pending ∧
    (storeReverse s).store.queue = s.store.queue ∧ (storeReverse s).store.history = s.store.history ∧
    (storeReverse s).store.woven = s.store.woven ∧ (storeReverse s).selector.chains = s.selector.chains ∧
    (storeReverse s).selector.sizing = s.selector.sizing := by
  simp [storeReverse]

@[simp] theorem emptyStore_frame (s : State) :
    (emptyStore s).port = s.port ∧ (emptyStore s).admission = s.admission ∧ (emptyStore s).load = s.load ∧
    (emptyStore s).tables = s.tables ∧ (emptyStore s).engine = s.engine ∧ (emptyStore s).tracker = s.tracker ∧
    (emptyStore s).weft = s.weft ∧ (emptyStore s).selector = s.selector ∧ (emptyStore s).health = s.health ∧
    (emptyStore s).control = s.control ∧ (emptyStore s).draws = s.draws ∧ (emptyStore s).pending = s.pending := by
  simp [emptyStore]

end Sys2Proof.Machine
end

