-- ==== Sys2Proof/Laws/Chains.lean ====
section
/-! SUPPORT. What the outputs of the selector chains are made of: the slice of a chain among the values of a shift, and the
outputs outside sizing. -/

namespace Sys2Proof.Machine

@[simp] theorem chainSlice_length (f m : Nat) (values : List Bool) (h : f + 16 * m ≤ values.length) :
    (chainSlice f m values).length = 16 * m := by
  simp only [chainSlice, List.length_take, List.length_drop]; omega

/-- Value `i` of a chain's slice is that of its hook (R103). -/
theorem chainSlice_getElem? (f m i : Nat) (values : List Bool) (h : i < 16 * m) :
    (chainSlice f m values)[i]? = values[f + i]? := by
  simp [chainSlice, h]

/-- Outside sizing the outputs are those of the shift in flight, or of none (R100, R106). -/
theorem chainOutputs_done {s : State} (h : s.selector.sizing = .done) (c : Fin 6) :
    chainOutputs s c = shiftOutputs s c := by
  simp only [chainOutputs, h]

/-- The hooks of a chain lie below N (R102, R103). -/
theorem firstHook_le_installed (s : State) (c : Fin 6) :
    firstHook s c 0 + 16 * moduleCount s.selector.chains[c] ≤ installed s := by
  have h : s.selector.chains.toList =
      s.selector.chains.toList.take c ++ s.selector.chains[c] :: s.selector.chains.toList.drop (c + 1) := by
    have := List.take_append_drop c.val s.selector.chains.toList
    rw [List.drop_eq_getElem_cons (by simp)] at this
    simpa using this.symm
  unfold installed firstHook
  conv_rhs => rw [h]
  simp only [List.map_append, List.map_cons, List.sum_append, List.sum_cons]
  omega

end Sys2Proof.Machine
end

