-- ==== Sys2Proof/Laws/Codec.lean ====
section
/-! SUPPORT. Reading back what is written: 16-bit values, frames, COMMAND bodies. -/

namespace Sys2Proof.Machine

@[simp] theorem half_bytes (x : Half) : half (x.extractLsb' 8 8) (x.extractLsb' 0 8) = x := by
  apply BitVec.eq_of_toNat_eq
  have h := x.isLt
  simp only [half, num16, BitVec.toNat_ofNat, BitVec.extractLsb'_toNat, Nat.shiftRight_eq_div_pow]
  omega

@[simp] theorem num16_half (x : Half) : num16 (x.extractLsb' 8 8) (x.extractLsb' 0 8) = x.toNat := by
  have h := x.isLt
  simp only [num16, BitVec.extractLsb'_toNat, Nat.shiftRight_eq_div_pow]
  omega

@[simp] theorem num16_byteOf (n : Nat) : num16 (byteOf (n / 256)) (byteOf n) = n % 65536 := by
  simp only [num16, byteOf, BitVec.toNat_ofNat]
  omega

@[simp] theorem byteOf_toNat (n : Nat) : (byteOf n).toNat = n % 256 := by simp [byteOf]

@[simp] theorem halfBytes_length (x : Half) : (halfBytes x).length = 2 := rfl

@[simp] theorem headerBytes_length (f : Frame) : (headerBytes f).length = 14 := rfl

@[simp] theorem frameBytes_length (f : Frame) : (frameBytes f).length = 16 + f.body.length := by
  simp [frameBytes]; omega

/-- The bytes of a frame pass the length check and the CRC check, and read as the frame (R156, R159, R168). -/
theorem checkBytes_frameBytes (f : Frame) (h : f.body.length ≤ 2032) : checkBytes (frameBytes f) = .good f := by
  obtain ⟨kind, dest, tag, slots, body⟩ := f
  have hl : body.length < 65536 := by simp only at h; omega
  have hn : num16 ((BitVec.ofNat 16 body.length).extractLsb' 8 8) ((BitVec.ofNat 16 body.length).extractLsb' 0 8)
      = body.length := by rw [num16_half, BitVec.toNat_ofNat]; omega
  have hbytes : frameBytes ⟨kind, dest, tag, slots, body⟩
      = headerBytes ⟨kind, dest, tag, slots, body⟩ ++
        (body ++ halfBytes (crc16 (headerBytes ⟨kind, dest, tag, slots, body⟩ ++ body))) := by
    simp [frameBytes]
  generalize hc : crc16 (headerBytes ⟨kind, dest, tag, slots, body⟩ ++ body) = crc at hbytes
  have htake : (frameBytes ⟨kind, dest, tag, slots, body⟩).take (14 + body.length)
      = headerBytes ⟨kind, dest, tag, slots, body⟩ ++ body := by
    rw [hbytes, ← List.append_assoc, List.take_left']
    simp
  rw [hbytes] at htake
  rw [hbytes]
  have hcrc : crc16 ((headerBytes ⟨kind, dest, tag, slots, body⟩ ++ (body ++ halfBytes crc)).take (14 + body.length))
      = crc := by rw [htake, hc]
  simp only [headerBytes, halfBytes, List.cons_append, List.nil_append] at hcrc ⊢
  simp only [checkBytes]
  rw [hn, if_pos (by simp), hcrc, if_pos (by simp [firstHalf])]
  simp only [half_bytes, List.take_left', FrameCheck.good.injEq, Frame.mk.injEq, true_and, and_true]
  apply Vector.ext
  intro i hi
  have : i = 0 ∨ i = 1 ∨ i = 2 ∨ i = 3 := by omega
  rcases this with rfl | rfl | rfl | rfl <;> rfl

/-- The parameter a code names is the one whose code it is (R168). -/
@[simp] theorem parameterOfCode_code (p : Parameter) : parameterOfCode (parameterCode p) = some p := by
  cases p <;> rfl

/-- The body of a command, with any padding, names the command (R168, R182). LOAD DATA has no padding of its own: the bytes
after its count are its entries. -/
theorem decodeCommand_commandBytes (c : Command) (pad : List Byte)
    (data : ∀ a b x, c = .loadData a b x → pad = [])
    (kinds : ∀ ks, c = .clearEvents ks → ks.length ≤ 255)
    (known : (∀ a b, c ≠ .configureUnknown a b) ∧ ∀ a b, c ≠ .queryUnknown a b) :
    decodeCommand (commandBytes c ++ pad) = some c := by
  cases c <;> try rfl
  case configure p i v => 
    simp only [commandBytes, halfBytes, List.cons_append, List.nil_append, decodeCommand]
    show decodeConfigure _ = _
    simp [decodeConfigure]
  case configureUnknown a b => exact absurd rfl (known.1 a b)
  case loadData a b x => rw [data a b x rfl, List.append_nil]; rfl
  case discardQueue e =>
    show some (Command.discardQueue (half _ _)) = _
    rw [half_bytes]
  case clearEvents ks =>
    have h := kinds ks rfl
    show decodeClearEvents (byteOf ks.length :: (ks ++ pad)) = _
    have hl : (byteOf ks.length).toNat = ks.length := by rw [byteOf_toNat]; omega
    simp [decodeClearEvents, hl]
  case query x sp => 
    cases x <;> (show some (Command.query _ (half _ _)) = _; rw [half_bytes])
  case queryTable sp a b c =>
    show some (Command.queryTable (half _ _) _ _ _) = _
    rw [half_bytes]
  case queryUnknown a b => exact absurd rfl (known.2 a b)

/-! ## Packed cells (R168) -/

/-- Eight bits put together, most significant first, read back. -/
theorem eight_bits (b0 b1 b2 b3 b4 b5 b6 b7 : Bool) (j : Fin 8) :
    (byteOf (2 * (2 * (2 * (2 * (2 * (2 * (2 * (2 * 0 + bitOf b0) + bitOf b1) + bitOf b2) + bitOf b3) + bitOf b4)
      + bitOf b5) + bitOf b6) + bitOf b7)).getLsbD (7 - j) = [b0, b1, b2, b3, b4, b5, b6, b7][j] := by
  revert b0 b1 b2 b3 b4 b5 b6 b7 j
  decide

/-- Cell `8 i + j` stands in bit `7 - j` of byte `i`. -/
theorem cellByte_bit (cells : List Bool) (i : Nat) (j : Fin 8) :
    (cellByte cells i).getLsbD (7 - j) = cells.getD (8 * i + j) false := by
  simp only [cellByte, List.range_succ_eq_map, List.range_zero, List.map_nil, List.map_cons, List.foldl_cons,
    List.foldl_nil, Nat.succ_eq_add_one, Nat.zero_add, Nat.reduceAdd]
  rw [eight_bits]
  fin_cases j <;> rfl

/-- A packed cell list reads back cell by cell, whatever follows. -/
theorem cellBit_packCells (cells : List Bool) (tail : List Byte) {i : Nat} (h : i < cells.length) :
    cellBit (packCells cells ++ tail) i = cells[i] := by
  have hl : i / 8 < (packCells cells).length := by simp [packCells]; omega
  unfold cellBit
  rw [List.getD_eq_getElem?_getD, List.getElem?_append_left hl]
  simp only [packCells, List.getElem?_map, List.getElem?_range (show i / 8 < (cells.length + 7) / 8 by omega),
    Option.map_some, Option.getD_some]
  rw [cellByte_bit cells (i / 8) ⟨i % 8, by omega⟩]
  have : 8 * (i / 8) + i % 8 = i := by omega
  simp [this, h]

end Sys2Proof.Machine
end

