-- ==== Sys2Proof/Laws/TablesFrame.lean ====
section
/-! SUPPORT. What each operation of the Pattern Tables, Pick Expansion and Pick Admission leaves unchanged, said once for each. -/

namespace Sys2Proof.Machine

@[simp] theorem openTarget_frame (t : TableId) (i n : Nat) (s : State) :
    (openTarget t i n s).port = s.port ∧ (openTarget t i n s).admission = s.admission ∧
    (openTarget t i n s).load = s.load ∧ (openTarget t i n s).store = s.store ∧
    (openTarget t i n s).tracker = s.tracker ∧ (openTarget t i n s).weft = s.weft ∧
    (openTarget t i n s).selector = s.selector ∧ (openTarget t i n s).health = s.health ∧
    (openTarget t i n s).control = s.control ∧ (openTarget t i n s).draws = s.draws ∧
    (openTarget t i n s).pending = s.pending ∧ (openTarget t i n s).engine.backlog = s.engine.backlog ∧
    (openTarget t i n s).engine.settled = s.engine.settled ∧ (openTarget t i n s).tables.width = s.tables.width := by
  unfold openTarget; split <;> simp

@[simp] theorem makeUsable_frame (ld : Load) (s : State) :
    (makeUsable ld s).port = s.port ∧ (makeUsable ld s).admission = s.admission ∧ (makeUsable ld s).load = s.load ∧
    (makeUsable ld s).store = s.store ∧ (makeUsable ld s).tracker = s.tracker ∧ (makeUsable ld s).weft = s.weft ∧
    (makeUsable ld s).selector = s.selector ∧ (makeUsable ld s).health = s.health ∧
    (makeUsable ld s).control = s.control ∧ (makeUsable ld s).draws = s.draws ∧
    (makeUsable ld s).pending = s.pending ∧ (makeUsable ld s).engine.backlog = s.engine.backlog ∧
    (makeUsable ld s).engine.settled = s.engine.settled ∧ (makeUsable ld s).tables.width = s.tables.width := by
  unfold makeUsable; split <;> simp

@[simp] theorem dropLoad_frame (s : State) :
    (dropLoad s).port = s.port ∧ (dropLoad s).admission = s.admission ∧ (dropLoad s).tables = s.tables ∧
    (dropLoad s).engine = s.engine ∧ (dropLoad s).store = s.store ∧ (dropLoad s).tracker = s.tracker ∧
    (dropLoad s).weft = s.weft ∧ (dropLoad s).selector = s.selector ∧ (dropLoad s).health = s.health ∧
    (dropLoad s).control = s.control ∧ (dropLoad s).draws = s.draws ∧ (dropLoad s).pending = s.pending := by
  simp [dropLoad]

@[simp] theorem resetRowCounters_frame (s : State) :
    (resetRowCounters s).port = s.port ∧ (resetRowCounters s).admission = s.admission ∧
    (resetRowCounters s).load = s.load ∧ (resetRowCounters s).tables = s.tables ∧
    (resetRowCounters s).store = s.store ∧ (resetRowCounters s).tracker = s.tracker ∧
    (resetRowCounters s).weft = s.weft ∧ (resetRowCounters s).selector = s.selector ∧
    (resetRowCounters s).health = s.health ∧ (resetRowCounters s).control = s.control ∧
    (resetRowCounters s).draws = s.draws ∧ (resetRowCounters s).pending = s.pending ∧
    (resetRowCounters s).engine.backlog = s.engine.backlog ∧
    (resetRowCounters s).engine.settled = s.engine.settled := by
  simp [resetRowCounters]

@[simp] theorem nextRecord_frame (s : State) :
    (nextRecord s).port = s.port ∧ (nextRecord s).admission = s.admission ∧ (nextRecord s).load = s.load ∧
    (nextRecord s).tables = s.tables ∧ (nextRecord s).store = s.store ∧ (nextRecord s).tracker = s.tracker ∧
    (nextRecord s).weft = s.weft ∧ (nextRecord s).selector = s.selector ∧ (nextRecord s).health = s.health ∧
    (nextRecord s).control = s.control ∧ (nextRecord s).draws = s.draws ∧ (nextRecord s).pending = s.pending ∧
    (nextRecord s).engine.rowCounters = s.engine.rowCounters := by
  simp [nextRecord]

@[simp] theorem completeRecord_frame (row : BacklogRow) (r : LiftRecord) (s : State) :
    (completeRecord row r s).port = s.port ∧ (completeRecord row r s).admission = s.admission ∧
    (completeRecord row r s).load = s.load ∧ (completeRecord row r s).tables = s.tables ∧
    (completeRecord row r s).tracker = s.tracker ∧ (completeRecord row r s).weft = s.weft ∧
    (completeRecord row r s).selector = s.selector ∧ (completeRecord row r s).health = s.health ∧
    (completeRecord row r s).draws = s.draws ∧ (completeRecord row r s).pending = s.pending ∧
    (completeRecord row r s).engine.rowCounters = s.engine.rowCounters ∧
    (completeRecord row r s).store.history = s.store.history ∧
    (completeRecord row r s).store.rewind = s.store.rewind ∧
    (completeRecord row r s).store.overshoot = s.store.overshoot ∧
    (completeRecord row r s).store.woven = s.store.woven := by
  unfold completeRecord; simp only []; split <;> simp

@[simp] theorem recordDone_frame (s : State) :
    (recordDone s).port = s.port ∧ (recordDone s).admission = s.admission ∧ (recordDone s).load = s.load ∧
    (recordDone s).tables = s.tables ∧ (recordDone s).tracker = s.tracker ∧ (recordDone s).weft = s.weft ∧
    (recordDone s).selector = s.selector ∧ (recordDone s).health = s.health ∧ (recordDone s).draws = s.draws ∧
    (recordDone s).pending = s.pending ∧ (recordDone s).engine.rowCounters = s.engine.rowCounters ∧
    (recordDone s).store.history = s.store.history ∧ (recordDone s).store.rewind = s.store.rewind ∧
    (recordDone s).store.overshoot = s.store.overshoot ∧ (recordDone s).store.woven = s.store.woven := by
  unfold recordDone; split <;> simp

@[simp] theorem recordsDone_frame (n : Nat) (s : State) :
    (recordsDone n s).port = s.port ∧ (recordsDone n s).admission = s.admission ∧ (recordsDone n s).load = s.load ∧
    (recordsDone n s).tables = s.tables ∧ (recordsDone n s).tracker = s.tracker ∧ (recordsDone n s).weft = s.weft ∧
    (recordsDone n s).selector = s.selector ∧ (recordsDone n s).health = s.health ∧
    (recordsDone n s).draws = s.draws ∧ (recordsDone n s).pending = s.pending ∧
    (recordsDone n s).engine.rowCounters = s.engine.rowCounters ∧
    (recordsDone n s).store.history = s.store.history ∧ (recordsDone n s).store.rewind = s.store.rewind ∧
    (recordsDone n s).store.overshoot = s.store.overshoot ∧ (recordsDone n s).store.woven = s.store.woven := by
  induction n generalizing s with
  | zero => simp [recordsDone]
  | succ n ih => simp [recordsDone, ih]

@[simp] theorem startEngine_frame (n : Nat) (s : State) :
    (startEngine n s).port = s.port ∧ (startEngine n s).admission = s.admission ∧ (startEngine n s).load = s.load ∧
    (startEngine n s).tables = s.tables ∧ (startEngine n s).tracker = s.tracker ∧ (startEngine n s).weft = s.weft ∧
    (startEngine n s).selector = s.selector ∧ (startEngine n s).health = s.health ∧
    (startEngine n s).draws = s.draws ∧ (startEngine n s).pending = s.pending ∧
    (startEngine n s).engine.rowCounters = s.engine.rowCounters ∧
    (startEngine n s).store.history = s.store.history ∧ (startEngine n s).store.rewind = s.store.rewind ∧
    (startEngine n s).store.overshoot = s.store.overshoot ∧ (startEngine n s).store.woven = s.store.woven := by
  unfold startEngine; split <;> simp

@[simp] theorem discardWork_frame (s : State) :
    (discardWork s).port = s.port ∧ (discardWork s).admission = s.admission ∧ (discardWork s).load = s.load ∧
    (discardWork s).tables = s.tables ∧ (discardWork s).tracker = s.tracker ∧ (discardWork s).weft = s.weft ∧
    (discardWork s).selector = s.selector ∧ (discardWork s).health = s.health ∧
    (discardWork s).control = s.control ∧ (discardWork s).draws = s.draws ∧ (discardWork s).pending = s.pending ∧
    (discardWork s).store.history = s.store.history ∧ (discardWork s).store.rewind = s.store.rewind ∧
    (discardWork s).store.overshoot = s.store.overshoot ∧ (discardWork s).store.woven = s.store.woven := by
  simp [discardWork]

@[simp] theorem abandonWork_frame (s : State) :
    (abandonWork s).port = s.port ∧ (abandonWork s).admission = s.admission ∧ (abandonWork s).load = s.load ∧
    (abandonWork s).tables = s.tables ∧ (abandonWork s).store = s.store ∧ (abandonWork s).tracker = s.tracker ∧
    (abandonWork s).weft = s.weft ∧ (abandonWork s).selector = s.selector ∧ (abandonWork s).health = s.health ∧
    (abandonWork s).control = s.control ∧ (abandonWork s).draws = s.draws ∧ (abandonWork s).pending = s.pending ∧
    (abandonWork s).engine.rowCounters = s.engine.rowCounters := by
  simp [abandonWork]

@[simp] theorem reserveRow_frame (row : DesignRow) (f : Nat) (s : State) :
    (reserveRow row f s).port = s.port ∧ (reserveRow row f s).load = s.load ∧
    (reserveRow row f s).tables = s.tables ∧ (reserveRow row f s).tracker = s.tracker ∧
    (reserveRow row f s).weft = s.weft ∧ (reserveRow row f s).selector = s.selector ∧
    (reserveRow row f s).health = s.health ∧ (reserveRow row f s).control = s.control ∧
    (reserveRow row f s).draws = s.draws ∧ (reserveRow row f s).pending = s.pending ∧
    (reserveRow row f s).store.history = s.store.history ∧ (reserveRow row f s).store.rewind = s.store.rewind ∧
    (reserveRow row f s).store.overshoot = s.store.overshoot ∧ (reserveRow row f s).store.woven = s.store.woven := by
  simp [reserveRow]

@[simp] theorem acceptRow_frame (row : DesignRow) (s : State) :
    (acceptRow row s).port = s.port ∧ (acceptRow row s).load = s.load ∧ (acceptRow row s).tables = s.tables ∧
    (acceptRow row s).tracker = s.tracker ∧ (acceptRow row s).weft = s.weft ∧
    (acceptRow row s).selector = s.selector ∧ (acceptRow row s).health = s.health ∧
    (acceptRow row s).draws = s.draws ∧ (acceptRow row s).pending = s.pending ∧
    (acceptRow row s).store.history = s.store.history ∧ (acceptRow row s).store.rewind = s.store.rewind ∧
    (acceptRow row s).store.overshoot = s.store.overshoot ∧ (acceptRow row s).store.woven = s.store.woven := by
  simp [acceptRow]

@[simp] theorem applyDesign_frame (o : OutcomeCode) (body : List Byte) (s : State) :
    (applyDesign o body s).port = s.port ∧ (applyDesign o body s).load = s.load ∧
    (applyDesign o body s).tables = s.tables ∧ (applyDesign o body s).tracker = s.tracker ∧
    (applyDesign o body s).weft = s.weft ∧ (applyDesign o body s).selector = s.selector ∧
    (applyDesign o body s).health = s.health ∧ (applyDesign o body s).draws = s.draws ∧
    (applyDesign o body s).pending = s.pending ∧ (applyDesign o body s).store.history = s.store.history ∧
    (applyDesign o body s).store.rewind = s.store.rewind ∧
    (applyDesign o body s).store.overshoot = s.store.overshoot ∧
    (applyDesign o body s).store.woven = s.store.woven := by
  unfold applyDesign; repeat' split
  all_goals simp

@[simp] theorem resetAdmission_frame (s : State) :
    (resetAdmission s).port = s.port ∧ (resetAdmission s).load = s.load ∧ (resetAdmission s).tables = s.tables ∧
    (resetAdmission s).engine = s.engine ∧ (resetAdmission s).store = s.store ∧
    (resetAdmission s).tracker = s.tracker ∧ (resetAdmission s).weft = s.weft ∧
    (resetAdmission s).selector = s.selector ∧ (resetAdmission s).health = s.health ∧
    (resetAdmission s).control = s.control ∧ (resetAdmission s).draws = s.draws ∧
    (resetAdmission s).pending = s.pending := by
  simp [resetAdmission]

end Sys2Proof.Machine
end

