-- ==== Sys2Proof/Laws/TrackerFrame.lean ====
section
/-! SUPPORT. What each operation of the Shaft Tracker and of the Weft and Input Unit leaves unchanged, said once for each. -/

namespace Sys2Proof.Machine

@[simp] theorem fireFeeder_frame (s : State) :
    (fireFeeder s).port = s.port ∧ (fireFeeder s).admission = s.admission ∧ (fireFeeder s).load = s.load ∧
    (fireFeeder s).tables = s.tables ∧ (fireFeeder s).engine = s.engine ∧ (fireFeeder s).store = s.store ∧
    (fireFeeder s).tracker = s.tracker ∧ (fireFeeder s).selector = s.selector ∧ (fireFeeder s).health = s.health ∧
    (fireFeeder s).control = s.control ∧ (fireFeeder s).draws = s.draws ∧ (fireFeeder s).pending = s.pending := by
  unfold fireFeeder; split <;> simp

@[simp] theorem fireArrivalOpen_frame (s : State) :
    (fireArrivalOpen s).port = s.port ∧ (fireArrivalOpen s).admission = s.admission ∧
    (fireArrivalOpen s).load = s.load ∧ (fireArrivalOpen s).tables = s.tables ∧
    (fireArrivalOpen s).engine = s.engine ∧ (fireArrivalOpen s).store = s.store ∧
    (fireArrivalOpen s).tracker = s.tracker ∧ (fireArrivalOpen s).selector = s.selector ∧
    (fireArrivalOpen s).health = s.health ∧ (fireArrivalOpen s).control = s.control ∧
    (fireArrivalOpen s).draws = s.draws ∧ (fireArrivalOpen s).pending = s.pending := by
  unfold fireArrivalOpen; split <;> simp

@[simp] theorem fireArrivalClose_frame (s : State) :
    (fireArrivalClose s).port = s.port ∧ (fireArrivalClose s).admission = s.admission ∧
    (fireArrivalClose s).load = s.load ∧ (fireArrivalClose s).tables = s.tables ∧
    (fireArrivalClose s).engine = s.engine ∧ (fireArrivalClose s).store = s.store ∧
    (fireArrivalClose s).tracker = s.tracker ∧ (fireArrivalClose s).selector = s.selector ∧
    (fireArrivalClose s).health = s.health ∧ (fireArrivalClose s).draws = s.draws ∧
    (fireArrivalClose s).pending = s.pending := by
  unfold fireArrivalClose; repeat' split
  all_goals simp

@[simp] theorem arrivalEdge_frame (s : State) :
    (arrivalEdge s).port = s.port ∧ (arrivalEdge s).admission = s.admission ∧ (arrivalEdge s).load = s.load ∧
    (arrivalEdge s).tables = s.tables ∧ (arrivalEdge s).engine = s.engine ∧ (arrivalEdge s).store = s.store ∧
    (arrivalEdge s).tracker = s.tracker ∧ (arrivalEdge s).selector = s.selector ∧
    (arrivalEdge s).health = s.health ∧ (arrivalEdge s).control = s.control ∧ (arrivalEdge s).draws = s.draws ∧
    (arrivalEdge s).pending = s.pending := by
  unfold arrivalEdge; repeat' split
  all_goals simp

@[simp] theorem setInputLevel_frame (i : Fin 8) (b : Bool) (s : State) :
    (setInputLevel i b s).port = s.port ∧ (setInputLevel i b s).admission = s.admission ∧
    (setInputLevel i b s).load = s.load ∧ (setInputLevel i b s).tables = s.tables ∧
    (setInputLevel i b s).engine = s.engine ∧ (setInputLevel i b s).store = s.store ∧
    (setInputLevel i b s).tracker = s.tracker ∧ (setInputLevel i b s).selector = s.selector ∧
    (setInputLevel i b s).health = s.health ∧ (setInputLevel i b s).control = s.control ∧
    (setInputLevel i b s).draws = s.draws ∧ (setInputLevel i b s).pending = s.pending := by
  simp [setInputLevel]

@[simp] theorem inputZero_frame (b : Bool) (s : State) :
    (inputZero b s).port = s.port ∧ (inputZero b s).admission = s.admission ∧ (inputZero b s).load = s.load ∧
    (inputZero b s).tables = s.tables ∧ (inputZero b s).engine = s.engine ∧ (inputZero b s).store = s.store ∧
    (inputZero b s).tracker = s.tracker ∧ (inputZero b s).selector = s.selector ∧
    (inputZero b s).health = s.health ∧ (inputZero b s).control = s.control ∧ (inputZero b s).draws = s.draws ∧
    (inputZero b s).pending = s.pending := by
  unfold inputZero; simp only []; split <;> simp

@[simp] theorem selectedEdge_frame (n : Fin 7) (s : State) :
    (selectedEdge n s).port = s.port ∧ (selectedEdge n s).admission = s.admission ∧
    (selectedEdge n s).load = s.load ∧ (selectedEdge n s).tables = s.tables ∧
    (selectedEdge n s).engine = s.engine ∧ (selectedEdge n s).store = s.store ∧
    (selectedEdge n s).tracker = s.tracker ∧ (selectedEdge n s).selector = s.selector ∧
    (selectedEdge n s).health = s.health ∧ (selectedEdge n s).draws = s.draws ∧
    (selectedEdge n s).pending = s.pending := by
  simp [selectedEdge]

@[simp] theorem inputLevel_frame (n : Fin 7) (b : Bool) (s : State) :
    (inputLevel n b s).port = s.port ∧ (inputLevel n b s).admission = s.admission ∧
    (inputLevel n b s).load = s.load ∧ (inputLevel n b s).tables = s.tables ∧
    (inputLevel n b s).engine = s.engine ∧ (inputLevel n b s).store = s.store ∧
    (inputLevel n b s).tracker = s.tracker ∧ (inputLevel n b s).selector = s.selector ∧
    (inputLevel n b s).health = s.health ∧ (inputLevel n b s).draws = s.draws ∧
    (inputLevel n b s).pending = s.pending := by
  unfold inputLevel; simp only []; split <;> simp

@[simp] theorem resetWeft_frame (s : State) :
    (resetWeft s).port = s.port ∧ (resetWeft s).admission = s.admission ∧ (resetWeft s).load = s.load ∧
    (resetWeft s).tables = s.tables ∧ (resetWeft s).engine = s.engine ∧ (resetWeft s).store = s.store ∧
    (resetWeft s).tracker = s.tracker ∧ (resetWeft s).selector = s.selector ∧ (resetWeft s).health = s.health ∧
    (resetWeft s).control = s.control ∧ (resetWeft s).draws = s.draws ∧ (resetWeft s).pending = s.pending := by
  simp [resetWeft]

@[simp] theorem markCrossing_frame (d : Direction) (s : State) :
    (markCrossing d s).port = s.port ∧ (markCrossing d s).admission = s.admission ∧
    (markCrossing d s).load = s.load ∧ (markCrossing d s).tables = s.tables ∧
    (markCrossing d s).engine = s.engine ∧ (markCrossing d s).store = s.store ∧ (markCrossing d s).weft = s.weft ∧
    (markCrossing d s).selector = s.selector ∧ (markCrossing d s).health = s.health ∧
    (markCrossing d s).control = s.control ∧ (markCrossing d s).draws = s.draws ∧
    (markCrossing d s).pending = s.pending := by
  simp [markCrossing]

@[simp] theorem moveAdvance_frame (d : Direction) (s : State) :
    (moveAdvance d s).port = s.port ∧ (moveAdvance d s).admission = s.admission ∧ (moveAdvance d s).load = s.load ∧
    (moveAdvance d s).tables = s.tables ∧ (moveAdvance d s).engine = s.engine ∧ (moveAdvance d s).store = s.store ∧
    (moveAdvance d s).weft = s.weft ∧ (moveAdvance d s).selector = s.selector ∧
    (moveAdvance d s).health = s.health ∧ (moveAdvance d s).control = s.control ∧
    (moveAdvance d s).draws = s.draws ∧ (moveAdvance d s).pending = s.pending := by
  simp [moveAdvance]

@[simp] theorem crossingEffects_frame (d : Direction) (s : State) :
    (crossingEffects d s).port = s.port ∧ (crossingEffects d s).admission = s.admission ∧
    (crossingEffects d s).load = s.load ∧ (crossingEffects d s).tables = s.tables ∧
    (crossingEffects d s).engine = s.engine ∧ (crossingEffects d s).health = s.health ∧
    (crossingEffects d s).draws = s.draws ∧ (crossingEffects d s).pending = s.pending ∧
    (crossingEffects d s).selector.chains = s.selector.chains ∧
    (crossingEffects d s).selector.sizing = s.selector.sizing := by
  unfold crossingEffects; repeat' split
  all_goals simp

@[simp] theorem takeCrossing_frame (d : Direction) (s : State) :
    (takeCrossing d s).port = s.port ∧ (takeCrossing d s).admission = s.admission ∧
    (takeCrossing d s).load = s.load ∧ (takeCrossing d s).tables = s.tables ∧
    (takeCrossing d s).engine = s.engine ∧ (takeCrossing d s).health = s.health ∧
    (takeCrossing d s).draws = s.draws ∧ (takeCrossing d s).pending = s.pending ∧
    (takeCrossing d s).selector.chains = s.selector.chains ∧
    (takeCrossing d s).selector.sizing = s.selector.sizing := by
  simp [takeCrossing]

@[simp] theorem examineStep_frame (d : Direction) (s : State) :
    (examineStep d s).port = s.port ∧ (examineStep d s).admission = s.admission ∧ (examineStep d s).load = s.load ∧
    (examineStep d s).tables = s.tables ∧ (examineStep d s).engine = s.engine ∧
    (examineStep d s).health = s.health ∧ (examineStep d s).draws = s.draws ∧
    (examineStep d s).pending = s.pending ∧ (examineStep d s).selector.chains = s.selector.chains ∧
    (examineStep d s).selector.sizing = s.selector.sizing := by
  unfold examineStep; simp only []; split <;> simp

@[simp] theorem offerFeeder_frame (s : State) :
    (offerFeeder s).port = s.port ∧ (offerFeeder s).admission = s.admission ∧ (offerFeeder s).load = s.load ∧
    (offerFeeder s).tables = s.tables ∧ (offerFeeder s).engine = s.engine ∧ (offerFeeder s).store = s.store ∧
    (offerFeeder s).selector = s.selector ∧ (offerFeeder s).health = s.health ∧
    (offerFeeder s).control = s.control ∧ (offerFeeder s).draws = s.draws ∧ (offerFeeder s).pending = s.pending := by
  unfold offerFeeder; split <;> simp

@[simp] theorem offerArrivalOpen_frame (s : State) :
    (offerArrivalOpen s).port = s.port ∧ (offerArrivalOpen s).admission = s.admission ∧
    (offerArrivalOpen s).load = s.load ∧ (offerArrivalOpen s).tables = s.tables ∧
    (offerArrivalOpen s).engine = s.engine ∧ (offerArrivalOpen s).store = s.store ∧
    (offerArrivalOpen s).selector = s.selector ∧ (offerArrivalOpen s).health = s.health ∧
    (offerArrivalOpen s).control = s.control ∧ (offerArrivalOpen s).draws = s.draws ∧
    (offerArrivalOpen s).pending = s.pending := by
  unfold offerArrivalOpen; split <;> simp

@[simp] theorem offerArrivalClose_frame (s : State) :
    (offerArrivalClose s).port = s.port ∧ (offerArrivalClose s).admission = s.admission ∧
    (offerArrivalClose s).load = s.load ∧ (offerArrivalClose s).tables = s.tables ∧
    (offerArrivalClose s).engine = s.engine ∧ (offerArrivalClose s).store = s.store ∧
    (offerArrivalClose s).selector = s.selector ∧ (offerArrivalClose s).health = s.health ∧
    (offerArrivalClose s).draws = s.draws ∧ (offerArrivalClose s).pending = s.pending := by
  unfold offerArrivalClose; split <;> simp

@[simp] theorem offerEvents_frame (s : State) :
    (offerEvents s).port = s.port ∧ (offerEvents s).admission = s.admission ∧ (offerEvents s).load = s.load ∧
    (offerEvents s).tables = s.tables ∧ (offerEvents s).engine = s.engine ∧ (offerEvents s).store = s.store ∧
    (offerEvents s).selector = s.selector ∧ (offerEvents s).health = s.health ∧ (offerEvents s).draws = s.draws ∧
    (offerEvents s).pending = s.pending := by
  simp [offerEvents]

@[simp] theorem followStep_frame (d : Direction) (s : State) :
    (followStep d s).port = s.port ∧ (followStep d s).admission = s.admission ∧ (followStep d s).load = s.load ∧
    (followStep d s).tables = s.tables ∧ (followStep d s).engine = s.engine ∧ (followStep d s).health = s.health ∧
    (followStep d s).draws = s.draws ∧ (followStep d s).pending = s.pending ∧
    (followStep d s).selector.chains = s.selector.chains ∧ (followStep d s).selector.sizing = s.selector.sizing := by
  unfold followStep; split <;> simp

@[simp] theorem setCounter_frame (n : Nat) (s : State) :
    (setCounter n s).port = s.port ∧ (setCounter n s).admission = s.admission ∧ (setCounter n s).load = s.load ∧
    (setCounter n s).tables = s.tables ∧ (setCounter n s).engine = s.engine ∧ (setCounter n s).store = s.store ∧
    (setCounter n s).weft = s.weft ∧ (setCounter n s).selector = s.selector ∧ (setCounter n s).health = s.health ∧
    (setCounter n s).control = s.control ∧ (setCounter n s).draws = s.draws ∧
    (setCounter n s).pending = s.pending := by
  simp [setCounter]

@[simp] theorem correctForward_frame (n : Nat) (s : State) :
    (correctForward n s).port = s.port ∧ (correctForward n s).admission = s.admission ∧
    (correctForward n s).load = s.load ∧ (correctForward n s).tables = s.tables ∧
    (correctForward n s).engine = s.engine ∧ (correctForward n s).health = s.health ∧
    (correctForward n s).draws = s.draws ∧ (correctForward n s).pending = s.pending ∧
    (correctForward n s).selector.chains = s.selector.chains ∧
    (correctForward n s).selector.sizing = s.selector.sizing := by
  induction n generalizing s with
  | zero => simp [correctForward]
  | succ n ih => simp [correctForward, ih]

@[simp] theorem correctCounter_frame (d : Direction) (dev : Int) (s : State) :
    (correctCounter d dev s).port = s.port ∧ (correctCounter d dev s).admission = s.admission ∧
    (correctCounter d dev s).load = s.load ∧ (correctCounter d dev s).tables = s.tables ∧
    (correctCounter d dev s).engine = s.engine ∧ (correctCounter d dev s).health = s.health ∧
    (correctCounter d dev s).draws = s.draws ∧ (correctCounter d dev s).pending = s.pending ∧
    (correctCounter d dev s).selector.chains = s.selector.chains ∧
    (correctCounter d dev s).selector.sizing = s.selector.sizing := by
  unfold correctCounter; repeat' split
  all_goals simp

@[simp] theorem judgeIndex_frame (d : Direction) (s : State) :
    (judgeIndex d s).port = s.port ∧ (judgeIndex d s).admission = s.admission ∧ (judgeIndex d s).load = s.load ∧
    (judgeIndex d s).tables = s.tables ∧ (judgeIndex d s).engine = s.engine ∧ (judgeIndex d s).health = s.health ∧
    (judgeIndex d s).draws = s.draws ∧ (judgeIndex d s).pending = s.pending ∧
    (judgeIndex d s).selector.chains = s.selector.chains ∧ (judgeIndex d s).selector.sizing = s.selector.sizing := by
  unfold judgeIndex; simp; split <;> simp

@[simp] theorem revalidate_frame (d : Direction) (s : State) :
    (revalidate d s).port = s.port ∧ (revalidate d s).admission = s.admission ∧ (revalidate d s).load = s.load ∧
    (revalidate d s).tables = s.tables ∧ (revalidate d s).engine = s.engine ∧ (revalidate d s).store = s.store ∧
    (revalidate d s).weft = s.weft ∧ (revalidate d s).selector = s.selector ∧ (revalidate d s).health = s.health ∧
    (revalidate d s).control = s.control ∧ (revalidate d s).draws = s.draws ∧
    (revalidate d s).pending = s.pending := by
  simp [revalidate]

@[simp] theorem indexPass_frame (d : Direction) (s : State) :
    (indexPass d s).port = s.port ∧ (indexPass d s).admission = s.admission ∧ (indexPass d s).load = s.load ∧
    (indexPass d s).tables = s.tables ∧ (indexPass d s).engine = s.engine ∧ (indexPass d s).health = s.health ∧
    (indexPass d s).draws = s.draws ∧ (indexPass d s).pending = s.pending ∧
    (indexPass d s).selector.chains = s.selector.chains ∧ (indexPass d s).selector.sizing = s.selector.sizing := by
  unfold indexPass; simp only []; split <;> simp

@[simp] theorem loseIndex_frame (s : State) :
    (loseIndex s).port = s.port ∧ (loseIndex s).admission = s.admission ∧ (loseIndex s).load = s.load ∧
    (loseIndex s).tables = s.tables ∧ (loseIndex s).engine = s.engine ∧ (loseIndex s).store = s.store ∧
    (loseIndex s).selector = s.selector ∧ (loseIndex s).health = s.health ∧ (loseIndex s).draws = s.draws ∧
    (loseIndex s).pending = s.pending := by
  simp [loseIndex]

@[simp] theorem plainStep_frame (d : Direction) (s : State) :
    (plainStep d s).port = s.port ∧ (plainStep d s).admission = s.admission ∧ (plainStep d s).load = s.load ∧
    (plainStep d s).tables = s.tables ∧ (plainStep d s).engine = s.engine ∧ (plainStep d s).store = s.store ∧
    (plainStep d s).selector = s.selector ∧ (plainStep d s).health = s.health ∧ (plainStep d s).draws = s.draws ∧
    (plainStep d s).pending = s.pending := by
  unfold plainStep; simp only []; repeat' split
  all_goals simp

@[simp] theorem encoderStepEffects_frame (d : Direction) (z : Bool) (s : State) :
    (encoderStepEffects d z s).port = s.port ∧ (encoderStepEffects d z s).admission = s.admission ∧
    (encoderStepEffects d z s).load = s.load ∧ (encoderStepEffects d z s).tables = s.tables ∧
    (encoderStepEffects d z s).engine = s.engine ∧ (encoderStepEffects d z s).health = s.health ∧
    (encoderStepEffects d z s).draws = s.draws ∧ (encoderStepEffects d z s).pending = s.pending ∧
    (encoderStepEffects d z s).selector.chains = s.selector.chains ∧
    (encoderStepEffects d z s).selector.sizing = s.selector.sizing := by
  unfold encoderStepEffects; simp only []; repeat' split
  all_goals simp

@[simp] theorem encoderLines_frame (a b z : Bool) (s : State) :
    (encoderLines a b z s).port = s.port ∧ (encoderLines a b z s).admission = s.admission ∧
    (encoderLines a b z s).load = s.load ∧ (encoderLines a b z s).tables = s.tables ∧
    (encoderLines a b z s).engine = s.engine ∧ (encoderLines a b z s).health = s.health ∧
    (encoderLines a b z s).draws = s.draws ∧ (encoderLines a b z s).pending = s.pending ∧
    (encoderLines a b z s).selector.chains = s.selector.chains ∧
    (encoderLines a b z s).selector.sizing = s.selector.sizing := by
  unfold encoderLines; simp only []; split <;> simp

@[simp] theorem expireCapture_frame (s : State) :
    (expireCapture s).port = s.port ∧ (expireCapture s).admission = s.admission ∧ (expireCapture s).load = s.load ∧
    (expireCapture s).tables = s.tables ∧ (expireCapture s).engine = s.engine ∧ (expireCapture s).store = s.store ∧
    (expireCapture s).weft = s.weft ∧ (expireCapture s).selector = s.selector ∧
    (expireCapture s).health = s.health ∧ (expireCapture s).control = s.control ∧
    (expireCapture s).draws = s.draws ∧ (expireCapture s).pending = s.pending := by
  simp [expireCapture]

@[simp] theorem resetTracker_frame (s : State) :
    (resetTracker s).port = s.port ∧ (resetTracker s).admission = s.admission ∧ (resetTracker s).load = s.load ∧
    (resetTracker s).tables = s.tables ∧ (resetTracker s).engine = s.engine ∧ (resetTracker s).store = s.store ∧
    (resetTracker s).weft = s.weft ∧ (resetTracker s).selector = s.selector ∧ (resetTracker s).health = s.health ∧
    (resetTracker s).control = s.control ∧ (resetTracker s).draws = s.draws ∧
    (resetTracker s).pending = s.pending := by
  simp [resetTracker]

end Sys2Proof.Machine
end

