-- ==== Sys2Proof/Laws/RingFrame.lean ====
section
/-! SUPPORT. What the run-control and Ring Port operations leave unchanged, said once for each. -/

namespace Sys2Proof.Machine

@[simp] theorem clearEvents_frame (kinds : List Nat) (s : State) :
    (clearEvents kinds s).port = s.port ∧ (clearEvents kinds s).admission = s.admission ∧
    (clearEvents kinds s).load = s.load ∧ (clearEvents kinds s).tables = s.tables ∧
    (clearEvents kinds s).engine = s.engine ∧ (clearEvents kinds s).store = s.store ∧
    (clearEvents kinds s).tracker = s.tracker ∧ (clearEvents kinds s).selector = s.selector ∧
    (clearEvents kinds s).health = s.health ∧ (clearEvents kinds s).draws = s.draws ∧
    (clearEvents kinds s).pending = s.pending ∧ (clearEvents kinds s).control.node = s.control.node := by
  unfold clearEvents; simp only []; split <;> simp

@[simp] theorem enterIdle_frame (s : State) :
    (enterIdle s).port = s.port ∧ (enterIdle s).admission = s.admission ∧ (enterIdle s).load = s.load ∧
    (enterIdle s).tables = s.tables ∧ (enterIdle s).engine = s.engine ∧ (enterIdle s).store = s.store ∧
    (enterIdle s).health = s.health ∧ (enterIdle s).draws = s.draws ∧ (enterIdle s).pending = s.pending ∧
    (enterIdle s).control.events = s.control.events ∧ (enterIdle s).selector.chains = s.selector.chains ∧
    (enterIdle s).selector.sizing = s.selector.sizing := by
  simp [enterIdle]

@[simp] theorem resetHealth_frame (s : State) :
    (resetHealth s).port = s.port ∧ (resetHealth s).admission = s.admission ∧ (resetHealth s).load = s.load ∧
    (resetHealth s).tables = s.tables ∧ (resetHealth s).engine = s.engine ∧ (resetHealth s).store = s.store ∧
    (resetHealth s).tracker = s.tracker ∧ (resetHealth s).weft = s.weft ∧ (resetHealth s).selector = s.selector ∧
    (resetHealth s).control = s.control ∧ (resetHealth s).draws = s.draws ∧ (resetHealth s).pending = s.pending ∧
    (resetHealth s).health.restTime = s.health.restTime := by
  simp [resetHealth]

@[simp] theorem resetControl_frame (s : State) :
    (resetControl s).port = s.port ∧ (resetControl s).admission = s.admission ∧ (resetControl s).load = s.load ∧
    (resetControl s).tables = s.tables ∧ (resetControl s).engine = s.engine ∧ (resetControl s).store = s.store ∧
    (resetControl s).tracker = s.tracker ∧ (resetControl s).weft = s.weft ∧
    (resetControl s).selector = s.selector ∧ (resetControl s).health = s.health ∧
    (resetControl s).draws = s.draws ∧ (resetControl s).pending = s.pending := by
  simp [resetControl]

@[simp] theorem resetNode_frame (s : State) :
    (resetNode s).port = s.port ∧ (resetNode s).tables = s.tables ∧ (resetNode s).draws = s.draws ∧
    (resetNode s).pending = s.pending := by
  simp [resetNode]

@[simp] theorem setNumber_frame (n : Option (Fin 4)) (s : State) :
    (setNumber n s).admission = s.admission ∧ (setNumber n s).load = s.load ∧ (setNumber n s).tables = s.tables ∧
    (setNumber n s).engine = s.engine ∧ (setNumber n s).store = s.store ∧ (setNumber n s).tracker = s.tracker ∧
    (setNumber n s).weft = s.weft ∧ (setNumber n s).selector = s.selector ∧ (setNumber n s).health = s.health ∧
    (setNumber n s).control = s.control ∧ (setNumber n s).draws = s.draws ∧ (setNumber n s).pending = s.pending := by
  simp [setNumber]

@[simp] theorem abandonFrame_frame (i : StoreId) (r : AbandonReason) (bytes : List Byte) (s : State) :
    (abandonFrame i r bytes s).admission = s.admission ∧ (abandonFrame i r bytes s).load = s.load ∧
    (abandonFrame i r bytes s).tables = s.tables ∧ (abandonFrame i r bytes s).engine = s.engine ∧
    (abandonFrame i r bytes s).store = s.store ∧ (abandonFrame i r bytes s).tracker = s.tracker ∧
    (abandonFrame i r bytes s).weft = s.weft ∧ (abandonFrame i r bytes s).selector = s.selector ∧
    (abandonFrame i r bytes s).health = s.health ∧ (abandonFrame i r bytes s).draws = s.draws ∧
    (abandonFrame i r bytes s).pending = s.pending := by
  simp [abandonFrame]

@[simp] theorem beginFrame_frame (s : State) :
    (beginFrame s).admission = s.admission ∧ (beginFrame s).load = s.load ∧ (beginFrame s).tables = s.tables ∧
    (beginFrame s).engine = s.engine ∧ (beginFrame s).store = s.store ∧ (beginFrame s).tracker = s.tracker ∧
    (beginFrame s).weft = s.weft ∧ (beginFrame s).selector = s.selector ∧ (beginFrame s).health = s.health ∧
    (beginFrame s).draws = s.draws ∧ (beginFrame s).pending = s.pending := by
  unfold beginFrame; split <;> simp

@[simp] theorem expireReception_frame (s : State) :
    (expireReception s).admission = s.admission ∧ (expireReception s).load = s.load ∧
    (expireReception s).tables = s.tables ∧ (expireReception s).engine = s.engine ∧
    (expireReception s).store = s.store ∧ (expireReception s).tracker = s.tracker ∧
    (expireReception s).weft = s.weft ∧ (expireReception s).selector = s.selector ∧
    (expireReception s).health = s.health ∧ (expireReception s).draws = s.draws ∧
    (expireReception s).pending = s.pending := by
  unfold expireReception; split <;> simp

@[simp] theorem startSending_frame (s : State) :
    (startSending s).admission = s.admission ∧ (startSending s).load = s.load ∧
    (startSending s).tables = s.tables ∧ (startSending s).engine = s.engine ∧ (startSending s).store = s.store ∧
    (startSending s).tracker = s.tracker ∧ (startSending s).weft = s.weft ∧
    (startSending s).selector = s.selector ∧ (startSending s).health = s.health ∧
    (startSending s).control = s.control ∧ (startSending s).draws = s.draws ∧
    (startSending s).pending = s.pending := by
  unfold startSending; repeat' split
  all_goals simp

@[simp] theorem endSending_frame (s : State) :
    (endSending s).admission = s.admission ∧ (endSending s).load = s.load ∧ (endSending s).tables = s.tables ∧
    (endSending s).engine = s.engine ∧ (endSending s).store = s.store ∧ (endSending s).tracker = s.tracker ∧
    (endSending s).weft = s.weft ∧ (endSending s).selector = s.selector ∧ (endSending s).health = s.health ∧
    (endSending s).control = s.control ∧ (endSending s).draws = s.draws ∧ (endSending s).pending = s.pending := by
  simp [endSending]

@[simp] theorem tickReception_frame (s : State) :
    (tickReception s).admission = s.admission ∧ (tickReception s).load = s.load ∧
    (tickReception s).tables = s.tables ∧ (tickReception s).engine = s.engine ∧ (tickReception s).store = s.store ∧
    (tickReception s).tracker = s.tracker ∧ (tickReception s).weft = s.weft ∧
    (tickReception s).selector = s.selector ∧ (tickReception s).health = s.health ∧
    (tickReception s).draws = s.draws ∧ (tickReception s).pending = s.pending := by
  unfold tickReception; repeat' split
  all_goals simp

@[simp] theorem tick_frame (s : State) :
    (tick s).admission = s.admission ∧ (tick s).load = s.load ∧ (tick s).tables = s.tables ∧
    (tick s).engine = s.engine ∧ (tick s).store = s.store ∧ (tick s).weft = s.weft ∧
    (tick s).selector = s.selector ∧ (tick s).draws = s.draws ∧ (tick s).pending = s.pending := by
  simp [tick]

end Sys2Proof.Machine
end

