-- ==== Sys2Proof/Laws/CommandFrame.lean ====
section
/-! SUPPORT. What each command leaves unchanged, said once for each. -/

namespace Sys2Proof.Machine

@[simp] theorem setPlain_frame (p : Parameter) (v : Nat) (s : State) :
    (setPlain p v s).state.port = s.port ∧ (setPlain p v s).state.admission = s.admission ∧
    (setPlain p v s).state.load = s.load ∧ (setPlain p v s).state.engine = s.engine ∧
    (setPlain p v s).state.store = s.store ∧ (setPlain p v s).state.selector = s.selector ∧
    (setPlain p v s).state.control = s.control ∧ (setPlain p v s).state.draws = s.draws ∧
    (setPlain p v s).state.pending = s.pending ∧ (setPlain p v s).state.tables.weaves = s.tables.weaves ∧
    (setPlain p v s).state.tables.codes = s.tables.codes ∧
    (setPlain p v s).state.tables.tieValid = s.tables.tieValid ∧ (setPlain p v s).state.tables.tie = s.tables.tie ∧
    (setPlain p v s).state.tables.wefts = s.tables.wefts ∧
    (setPlain p v s).state.tracker.counter = s.tracker.counter ∧
    (setPlain p v s).state.tracker.net = s.tracker.net ∧
    (setPlain p v s).state.tracker.angleValid = s.tracker.angleValid ∧
    (setPlain p v s).state.tracker.armed = s.tracker.armed ∧
    (setPlain p v s).state.tracker.period = s.tracker.period ∧
    (setPlain p v s).state.tracker.timer = s.tracker.timer ∧
    (setPlain p v s).state.tracker.capture = s.tracker.capture ∧
    (setPlain p v s).state.tracker.applied = s.tracker.applied ∧
    (setPlain p v s).state.health.faultMap = s.health.faultMap ∧
    (setPlain p v s).state.health.overflow = s.health.overflow ∧
    (setPlain p v s).state.health.modules = s.health.modules := by
  cases p <;>
    simp only [setPlain, setDesignWidth, setSelectAngle, setSelectLatency, setReverseMargin, setFeederDistance,
      setOpenDistance, setCloseDistance, setWeftOwner, setArrivalEdge, setRestTime, outOfRange, taken, retarget] <;>
    (repeat' split) <;> simp

@[simp] theorem setTarget_frame (t : Target) (v : Nat) (s : State) :
    (setTarget t v s).state.port = s.port ∧ (setTarget t v s).state.admission = s.admission ∧
    (setTarget t v s).state.load = s.load ∧ (setTarget t v s).state.engine = s.engine ∧
    (setTarget t v s).state.store = s.store ∧ (setTarget t v s).state.selector = s.selector ∧
    (setTarget t v s).state.draws = s.draws ∧ (setTarget t v s).state.pending = s.pending ∧
    (setTarget t v s).state.tables.weaves = s.tables.weaves ∧
    (setTarget t v s).state.tables.codes = s.tables.codes ∧
    (setTarget t v s).state.tables.tieValid = s.tables.tieValid ∧
    (setTarget t v s).state.tables.tie = s.tables.tie ∧ (setTarget t v s).state.tables.wefts = s.tables.wefts ∧
    (setTarget t v s).state.control.node = s.control.node ∧
    (setTarget t v s).state.tracker.counter = s.tracker.counter ∧
    (setTarget t v s).state.tracker.net = s.tracker.net ∧
    (setTarget t v s).state.tracker.angleValid = s.tracker.angleValid ∧
    (setTarget t v s).state.tracker.armed = s.tracker.armed ∧
    (setTarget t v s).state.tracker.period = s.tracker.period ∧
    (setTarget t v s).state.tracker.timer = s.tracker.timer ∧
    (setTarget t v s).state.tracker.capture = s.tracker.capture ∧
    (setTarget t v s).state.tracker.applied = s.tracker.applied ∧
    (setTarget t v s).state.health.faultMap = s.health.faultMap ∧
    (setTarget t v s).state.health.overflow = s.health.overflow ∧
    (setTarget t v s).state.health.modules = s.health.modules := by
  cases t <;> simp only [setTarget, setInputEnable, setInputEdge, setActionLevel, outOfRange, taken] <;>
    (repeat' split) <;> simp

/-- CONFIGURE leaves the state alone or gives its parameter the value, an IDLE-only one not in RUN and HALT (R183). -/
theorem cmdConfigure_state (p : Parameter) (i : Byte) (v : Half) (s : State) :
    (cmdConfigure p i v s).state = s ∨
      ∃ t, targetOf p i.toNat = some t ∧ ¬(idleOnly p = true ∧ weaving s = true) ∧
        (cmdConfigure p i v s).state = (setTarget t v.toNat s).state := by
  unfold cmdConfigure
  cases h : targetOf p i.toNat with
  | none => exact .inl rfl
  | some t =>
    simp only [judgeSetting]
    split
    · exact .inl rfl
    · rename_i hn
      exact .inr ⟨t, rfl, hn, rfl⟩

@[simp] theorem cmdConfigure_frame (p : Parameter) (i : Byte) (v : Half) (s : State) :
    (cmdConfigure p i v s).state.port = s.port ∧ (cmdConfigure p i v s).state.admission = s.admission ∧
    (cmdConfigure p i v s).state.load = s.load ∧ (cmdConfigure p i v s).state.engine = s.engine ∧
    (cmdConfigure p i v s).state.store = s.store ∧ (cmdConfigure p i v s).state.selector = s.selector ∧
    (cmdConfigure p i v s).state.draws = s.draws ∧ (cmdConfigure p i v s).state.pending = s.pending ∧
    (cmdConfigure p i v s).state.tables.weaves = s.tables.weaves ∧
    (cmdConfigure p i v s).state.tables.codes = s.tables.codes ∧
    (cmdConfigure p i v s).state.tables.tieValid = s.tables.tieValid ∧
    (cmdConfigure p i v s).state.tables.tie = s.tables.tie ∧
    (cmdConfigure p i v s).state.tables.wefts = s.tables.wefts ∧
    (cmdConfigure p i v s).state.control.node = s.control.node ∧
    (cmdConfigure p i v s).state.tracker.counter = s.tracker.counter ∧
    (cmdConfigure p i v s).state.tracker.net = s.tracker.net ∧
    (cmdConfigure p i v s).state.tracker.angleValid = s.tracker.angleValid ∧
    (cmdConfigure p i v s).state.tracker.armed = s.tracker.armed ∧
    (cmdConfigure p i v s).state.tracker.period = s.tracker.period ∧
    (cmdConfigure p i v s).state.tracker.timer = s.tracker.timer ∧
    (cmdConfigure p i v s).state.tracker.capture = s.tracker.capture ∧
    (cmdConfigure p i v s).state.tracker.applied = s.tracker.applied ∧
    (cmdConfigure p i v s).state.health.faultMap = s.health.faultMap ∧
    (cmdConfigure p i v s).state.health.overflow = s.health.overflow ∧
    (cmdConfigure p i v s).state.health.modules = s.health.modules := by
  rcases cmdConfigure_state p i v s with h | ⟨t, -, -, h⟩ <;> simp [h]

@[simp] theorem cmdLoadOpen_frame (a b c : Byte) (s : State) :
    (cmdLoadOpen a b c s).state.port = s.port ∧ (cmdLoadOpen a b c s).state.admission = s.admission ∧
    (cmdLoadOpen a b c s).state.store = s.store ∧ (cmdLoadOpen a b c s).state.tracker = s.tracker ∧
    (cmdLoadOpen a b c s).state.weft = s.weft ∧ (cmdLoadOpen a b c s).state.selector = s.selector ∧
    (cmdLoadOpen a b c s).state.health = s.health ∧ (cmdLoadOpen a b c s).state.control = s.control ∧
    (cmdLoadOpen a b c s).state.draws = s.draws ∧ (cmdLoadOpen a b c s).state.pending = s.pending ∧
    (cmdLoadOpen a b c s).state.engine.backlog = s.engine.backlog ∧
    (cmdLoadOpen a b c s).state.engine.settled = s.engine.settled ∧
    (cmdLoadOpen a b c s).state.tables.width = s.tables.width := by
  unfold cmdLoadOpen; (repeat' split) <;> simp [refuse]

@[simp] theorem cmdLoadData_frame (a b : Byte) (x : List Byte) (s : State) :
    (cmdLoadData a b x s).state.port = s.port ∧ (cmdLoadData a b x s).state.admission = s.admission ∧
    (cmdLoadData a b x s).state.engine = s.engine ∧ (cmdLoadData a b x s).state.store = s.store ∧
    (cmdLoadData a b x s).state.tracker = s.tracker ∧ (cmdLoadData a b x s).state.weft = s.weft ∧
    (cmdLoadData a b x s).state.selector = s.selector ∧ (cmdLoadData a b x s).state.health = s.health ∧
    (cmdLoadData a b x s).state.control = s.control ∧ (cmdLoadData a b x s).state.draws = s.draws ∧
    (cmdLoadData a b x s).state.pending = s.pending := by
  unfold cmdLoadData; (repeat' split) <;> simp [takeEntries]

@[simp] theorem cmdLoadClose_frame (s : State) :
    (cmdLoadClose s).state.port = s.port ∧ (cmdLoadClose s).state.admission = s.admission ∧
    (cmdLoadClose s).state.store = s.store ∧ (cmdLoadClose s).state.tracker = s.tracker ∧
    (cmdLoadClose s).state.weft = s.weft ∧ (cmdLoadClose s).state.selector = s.selector ∧
    (cmdLoadClose s).state.health = s.health ∧ (cmdLoadClose s).state.control = s.control ∧
    (cmdLoadClose s).state.draws = s.draws ∧ (cmdLoadClose s).state.pending = s.pending ∧
    (cmdLoadClose s).state.engine.backlog = s.engine.backlog ∧
    (cmdLoadClose s).state.engine.settled = s.engine.settled ∧
    (cmdLoadClose s).state.tables.width = s.tables.width := by
  unfold cmdLoadClose; (repeat' split) <;> simp [refuse, accept, dropLoad]

@[simp] theorem cmdLoadAbort_frame (s : State) :
    (cmdLoadAbort s).state.port = s.port ∧ (cmdLoadAbort s).state.admission = s.admission ∧
    (cmdLoadAbort s).state.tables = s.tables ∧ (cmdLoadAbort s).state.engine = s.engine ∧
    (cmdLoadAbort s).state.store = s.store ∧ (cmdLoadAbort s).state.tracker = s.tracker ∧
    (cmdLoadAbort s).state.weft = s.weft ∧ (cmdLoadAbort s).state.selector = s.selector ∧
    (cmdLoadAbort s).state.health = s.health ∧ (cmdLoadAbort s).state.control = s.control ∧
    (cmdLoadAbort s).state.draws = s.draws ∧ (cmdLoadAbort s).state.pending = s.pending := by
  unfold cmdLoadAbort; split <;> simp [refuse, accept, dropLoad]

@[simp] theorem cmdRun_frame (s : State) :
    (cmdRun s).state.port = s.port ∧ (cmdRun s).state.admission = s.admission ∧ (cmdRun s).state.load = s.load ∧
    (cmdRun s).state.tables = s.tables ∧ (cmdRun s).state.engine = s.engine ∧ (cmdRun s).state.store = s.store ∧
    (cmdRun s).state.tracker = s.tracker ∧ (cmdRun s).state.weft = s.weft ∧
    (cmdRun s).state.selector = s.selector ∧ (cmdRun s).state.health = s.health ∧
    (cmdRun s).state.draws = s.draws ∧ (cmdRun s).state.pending = s.pending ∧
    (cmdRun s).state.control.events = s.control.events := by
  unfold cmdRun; split <;> simp [refuse, accept]

@[simp] theorem cmdResume_frame (s : State) :
    (cmdResume s).state.port = s.port ∧ (cmdResume s).state.admission = s.admission ∧
    (cmdResume s).state.load = s.load ∧ (cmdResume s).state.tables = s.tables ∧
    (cmdResume s).state.engine = s.engine ∧ (cmdResume s).state.store = s.store ∧
    (cmdResume s).state.tracker = s.tracker ∧ (cmdResume s).state.weft = s.weft ∧
    (cmdResume s).state.selector = s.selector ∧ (cmdResume s).state.health = s.health ∧
    (cmdResume s).state.draws = s.draws ∧ (cmdResume s).state.pending = s.pending ∧
    (cmdResume s).state.control.events = s.control.events := by
  unfold cmdResume; split <;> simp [refuse, accept]

@[simp] theorem cmdIdle_frame (s : State) :
    (cmdIdle s).state.port = s.port ∧ (cmdIdle s).state.admission = s.admission ∧ (cmdIdle s).state.load = s.load ∧
    (cmdIdle s).state.tables = s.tables ∧ (cmdIdle s).state.engine = s.engine ∧ (cmdIdle s).state.store = s.store ∧
    (cmdIdle s).state.health = s.health ∧ (cmdIdle s).state.draws = s.draws ∧
    (cmdIdle s).state.pending = s.pending ∧ (cmdIdle s).state.control.events = s.control.events ∧
    (cmdIdle s).state.selector.chains = s.selector.chains ∧
    (cmdIdle s).state.selector.sizing = s.selector.sizing := by
  unfold cmdIdle; split <;> simp [accept]

@[simp] theorem cmdDiscard_frame (e : Nat) (s : State) :
    (cmdDiscard e s).state.port = s.port ∧ (cmdDiscard e s).state.load = s.load ∧
    (cmdDiscard e s).state.tables = s.tables ∧ (cmdDiscard e s).state.tracker = s.tracker ∧
    (cmdDiscard e s).state.weft = s.weft ∧ (cmdDiscard e s).state.selector = s.selector ∧
    (cmdDiscard e s).state.health = s.health ∧ (cmdDiscard e s).state.control = s.control ∧
    (cmdDiscard e s).state.draws = s.draws ∧ (cmdDiscard e s).state.pending = s.pending := by
  unfold cmdDiscard; split <;> simp [refuse]

@[simp] theorem cmdClearHistory_frame (s : State) :
    (cmdClearHistory s).state.port = s.port ∧ (cmdClearHistory s).state.admission = s.admission ∧
    (cmdClearHistory s).state.load = s.load ∧ (cmdClearHistory s).state.tables = s.tables ∧
    (cmdClearHistory s).state.engine = s.engine ∧ (cmdClearHistory s).state.tracker = s.tracker ∧
    (cmdClearHistory s).state.weft = s.weft ∧ (cmdClearHistory s).state.selector = s.selector ∧
    (cmdClearHistory s).state.health = s.health ∧ (cmdClearHistory s).state.control = s.control ∧
    (cmdClearHistory s).state.draws = s.draws ∧ (cmdClearHistory s).state.pending = s.pending ∧
    (cmdClearHistory s).state.store.queue = s.store.queue ∧
    (cmdClearHistory s).state.store.woven = s.store.woven := by
  unfold cmdClearHistory; split <;> simp [refuse, accept]

@[simp] theorem cmdClearEvents_frame (kinds : List Byte) (s : State) :
    (cmdClearEvents kinds s).state.port = s.port ∧ (cmdClearEvents kinds s).state.admission = s.admission ∧
    (cmdClearEvents kinds s).state.load = s.load ∧ (cmdClearEvents kinds s).state.tables = s.tables ∧
    (cmdClearEvents kinds s).state.engine = s.engine ∧ (cmdClearEvents kinds s).state.store = s.store ∧
    (cmdClearEvents kinds s).state.tracker = s.tracker ∧ (cmdClearEvents kinds s).state.selector = s.selector ∧
    (cmdClearEvents kinds s).state.health = s.health ∧ (cmdClearEvents kinds s).state.draws = s.draws ∧
    (cmdClearEvents kinds s).state.pending = s.pending ∧
    (cmdClearEvents kinds s).state.control.node = s.control.node := by
  unfold cmdClearEvents; split <;> simp [refuse, accept]

@[simp] theorem cmdClearFaultMap_frame (s : State) :
    (cmdClearFaultMap s).state.port = s.port ∧ (cmdClearFaultMap s).state.admission = s.admission ∧
    (cmdClearFaultMap s).state.load = s.load ∧ (cmdClearFaultMap s).state.tables = s.tables ∧
    (cmdClearFaultMap s).state.store = s.store ∧ (cmdClearFaultMap s).state.tracker = s.tracker ∧
    (cmdClearFaultMap s).state.weft = s.weft ∧ (cmdClearFaultMap s).state.selector = s.selector ∧
    (cmdClearFaultMap s).state.control = s.control ∧ (cmdClearFaultMap s).state.pending = s.pending ∧
    (cmdClearFaultMap s).state.engine.backlog = s.engine.backlog ∧
    (cmdClearFaultMap s).state.engine.rowCounters = s.engine.rowCounters := by
  unfold cmdClearFaultMap; split <;> simp [refuse, accept]

@[simp] theorem cmdRelease_frame (c k : Nat) (s : State) :
    (cmdRelease c k s).state.port = s.port ∧ (cmdRelease c k s).state.admission = s.admission ∧
    (cmdRelease c k s).state.load = s.load ∧ (cmdRelease c k s).state.tables = s.tables ∧
    (cmdRelease c k s).state.engine = s.engine ∧ (cmdRelease c k s).state.store = s.store ∧
    (cmdRelease c k s).state.tracker = s.tracker ∧ (cmdRelease c k s).state.weft = s.weft ∧
    (cmdRelease c k s).state.selector = s.selector ∧ (cmdRelease c k s).state.control = s.control ∧
    (cmdRelease c k s).state.draws = s.draws ∧ (cmdRelease c k s).state.pending = s.pending ∧
    (cmdRelease c k s).state.health.faultMap = s.health.faultMap ∧
    (cmdRelease c k s).state.health.overflow = s.health.overflow ∧
    (cmdRelease c k s).state.health.restTime = s.health.restTime := by
  unfold cmdRelease; (repeat' split) <;> (try unfold releaseAt) <;> (repeat' split) <;> simp [refuse, accept]

/-- A query changes nothing (R188). -/
@[simp] theorem cmdQuery_state (x : Subject) (s : State) : (cmdQuery x s).state = s := by cases x <;> rfl

/-- A query of a table changes nothing (R188). -/
@[simp] theorem cmdQueryTable_state (a b c : Byte) (s : State) : (cmdQueryTable a b c s).state = s := by
  unfold cmdQueryTable; (repeat' split) <;> rfl

@[simp] theorem cmdReset_frame (s : State) :
    (cmdReset s).state.port = s.port ∧ (cmdReset s).state.tables = s.tables ∧ (cmdReset s).state.draws = s.draws ∧
    (cmdReset s).state.pending = s.pending := by
  simp [cmdReset, accept]

@[simp] theorem performCommand_frame (c : Command) (s : State) :
    (performCommand c s).state.port = s.port ∧ (performCommand c s).state.pending = s.pending := by
  cases c <;> simp [performCommand, cmdConfigureUnknown, refuse]

end Sys2Proof.Machine
end

