-- ==== Sys2Proof/Laws/Tracker.lean ====
section
/-! SUPPORT. What the operations of the Shaft Tracker do, said once for each: which change of the lines is a step, how a step
is put together, and what a step does when it is a crossing, when it reaches no crossing, and when it loses the index. -/

namespace Sys2Proof.Machine

/-! ## The step -/

theorem quadratureStep_forward {l : Lines} {a b : Bool} (h : forwardLines l a b) :
    quadratureStep l a b = some .forward := by
  obtain ⟨la, lb, lz⟩ := l
  cases la <;> cases lb <;> cases a <;> cases b <;> simp_all [forwardLines] <;> rfl

theorem quadratureStep_reverse {l : Lines} {a b : Bool} (h : reverseLines l a b) :
    quadratureStep l a b = some .reverse := by
  obtain ⟨la, lb, lz⟩ := l
  cases la <;> cases lb <;> cases a <;> cases b <;> simp_all [reverseLines] <;> rfl

theorem quadratureStep_none {l : Lines} {a b : Bool} (h : ¬forwardLines l a b ∧ ¬reverseLines l a b) :
    quadratureStep l a b = none := by
  obtain ⟨la, lb, lz⟩ := l
  cases la <;> cases lb <;> cases a <;> cases b <;> simp_all [forwardLines, reverseLines] <;> rfl

theorem countStep_forward (c : Nat) : countStep .forward c = (c + 1) % 1024 := rfl

theorem countStep_reverse (c : Nat) : countStep .reverse c = (c + 1023) % 1024 := by
  simp only [countStep, angleSub]; omega

/-- The boundary under the ranges of the tracker (R71). -/
theorem boundary_eq {t : Tracker} (h : TrackerLaw t) : boundary t = (t.selectAngle + 1024 - t.applied) % 1024 := by
  obtain ⟨-, -, -, -, -, -, -, -, ha, hs, -⟩ := h
  simp only [boundary, angleSub]; omega

/-- The state after item 1 of R60: the lines, the counter and the direction moved. -/
def stepped (d : Direction) (a b z : Bool) (s : State) : State :=
  s.setTracker { s.tracker with lines := ⟨a, b, z⟩, counter := countStep d s.tracker.counter, direction := d }

/-- An encoder step is item 1, then items 2 and 3 while the angle is valid, then the index pass or the net step count
(R60). -/
theorem encoderLines_step {d : Direction} {a b : Bool} (z : Bool) {s : State}
    (h : quadratureStep s.tracker.lines a b = some d) :
    encoderLines a b z s =
      (if z then indexPass d else plainStep d)
        (if s.tracker.angleValid then followStep d (stepped d a b z s) else stepped d a b z s) := by
  simp only [encoderLines, h, encoderStepEffects, setTracker_setTracker, setTracker_tracker, stepped]
  cases z <;> rfl

/-- A step that is not an index pass, while the angle is valid and the count stays below 1,100 (R64, R67). -/
theorem plainStep_counts {d : Direction} {s : State} (hv : s.tracker.angleValid = true)
    (hn : (netAfter d s.tracker.net).natAbs < 1100) :
    plainStep d s = s.setTracker { noteReverse d s.tracker with net := netAfter d s.tracker.net } := by
  cases d <;> simp_all [plainStep, noteReverse, Config.indexLostAt]

/-- A step that brings the count to 1,100 loses the index (R64). -/
theorem plainStep_loses {d : Direction} {s : State} (hv : s.tracker.angleValid = true)
    (hn : 1100 ≤ (netAfter d s.tracker.net).natAbs) :
    plainStep d s = loseIndex (s.setTracker (noteReverse d s.tracker)) := by
  cases d <;> simp_all [plainStep, noteReverse, Config.indexLostAt]

/-- While the angle is not valid the count is held at 0 (R64). -/
theorem plainStep_invalid {d : Direction} {s : State} (hv : s.tracker.angleValid = false) :
    plainStep d s = s.setTracker { noteReverse d s.tracker with net := 0 } := by
  cases d <;> simp_all [plainStep, noteReverse]

/-! ## The boundary tracker and the pick events -/

theorem noteAntipode_fields (t : Tracker) :
    noteAntipode t = { t with antipodeFlag := if t.counter = antipode t then true else t.antipodeFlag } := by
  unfold noteAntipode; split <;> simp_all

theorem followStep_forward (s : State) : followStep .forward s = offerEvents (examineStep .forward s) := rfl

theorem followStep_reverse (s : State) : followStep .reverse s = examineStep .reverse s := rfl

/-- A step onto another angle than the crossing angle (R73). -/
theorem examineStep_off {d : Direction} {s : State} (h : s.tracker.counter ≠ crossingAngle d s.tracker) :
    examineStep d s = s.setTracker (noteAntipode s.tracker) := by
  simp [examineStep, h]

/-- A step onto the crossing angle with the crossing due (R74, R75). -/
theorem examineStep_crosses {d : Direction} {s : State} (h : s.tracker.counter = crossingAngle d s.tracker)
    (hd : crossingDue d s.tracker) :
    examineStep d s = takeCrossing d (s.setTracker (noteAntipode s.tracker)) := by
  have : crossingAllowed d (noteAntipode s.tracker) = true := by
    rw [noteAntipode_fields]
    rcases hd with h1 | h1
    · have : (s.tracker.last != d) = true := by simpa using h1
      simp [crossingAllowed, this]
    · simp [crossingAllowed, h1]
  simp [examineStep, h, this]

/-- A step onto the crossing angle with the crossing not due, and the antipode elsewhere, changes nothing (R74, R75). -/
theorem examineStep_notDue {d : Direction} {s : State} (ha : s.tracker.counter ≠ antipode s.tracker)
    (hd : ¬crossingDue d s.tracker) : examineStep d s = s := by
  simp only [not_or, ne_eq, not_not, Bool.not_eq_true] at hd
  have hn : noteAntipode s.tracker = s.tracker := by unfold noteAntipode; rw [if_neg ha]
  have hc : crossingAllowed d s.tracker = false := by simp [crossingAllowed, hd.1, hd.2]
  have hs : s.setTracker s.tracker = s := rfl
  simp [examineStep, hn, hs, hc]

/-- A forward step that reaches no armed pick event fires none (R87). -/
theorem offerEvents_none {s : State} (h : ¬eventAt s.tracker s.tracker.counter) : offerEvents s = s := by
  simp only [eventAt, not_or] at h
  have h1 : offerFeeder s = s := by unfold offerFeeder; rw [if_neg h.1]
  have h2 : offerArrivalOpen s = s := by unfold offerArrivalOpen; rw [if_neg h.2.1]
  have h3 : offerArrivalClose s = s := by unfold offerArrivalClose; rw [if_neg h.2.2]
  rw [offerEvents, h1, h2, h3]

/-- What a raise does to the event unit depends on it alone. -/
theorem raise_control_congr (k : EventKind) {s t : State} (h : s.control = t.control) :
    (raise k s).control = (raise k t).control := by
  simp [raise, h]

/-! ## The pick events, said whole -/

/-- FEEDER offered a step (R87, R89). -/
theorem offerFeeder_eq (s : State) :
    offerFeeder s =
      let fires := s.tracker.armed.feeder && decide (s.tracker.counter = eventAngle s.tracker s.tracker.feederDist)
      (s.setTracker { s.tracker with armed := { s.tracker.armed with feeder := s.tracker.armed.feeder && !fires } }).setWeft
        (if fires && s.weft.owner then { s.weft with feeder := presentedFeeder s.store } else s.weft) := by
  unfold offerFeeder
  by_cases h : s.tracker.armed.feeder = true ∧ s.tracker.counter = eventAngle s.tracker s.tracker.feederDist
  · rw [if_pos h]
    obtain ⟨h1, h2⟩ := h
    unfold fireFeeder
    cases ho : s.weft.owner <;> simp [h1, ← h2, ho, setFeeder]
    all_goals rfl
  · rw [if_neg h]
    have : (s.tracker.armed.feeder && decide (s.tracker.counter = eventAngle s.tracker s.tracker.feederDist)) = false := by
      rw [Bool.eq_false_iff]; intro hx; apply h; simpa using hx
    simp [this]; rfl

/-- ARRIVAL_OPEN offered a step (R87, R91). -/
theorem offerArrivalOpen_eq (s : State) :
    offerArrivalOpen s =
      let fires := s.tracker.armed.arrivalOpen && decide (s.tracker.counter = eventAngle s.tracker s.tracker.openDist)
      (s.setTracker { s.tracker with armed := { s.tracker.armed with arrivalOpen := s.tracker.armed.arrivalOpen && !fires } }).setWeft
        (if fires && s.weft.owner then { s.weft with window := true, mark := false } else s.weft) := by
  unfold offerArrivalOpen
  by_cases h : s.tracker.armed.arrivalOpen = true ∧ s.tracker.counter = eventAngle s.tracker s.tracker.openDist
  · rw [if_pos h]
    obtain ⟨h1, h2⟩ := h
    unfold fireArrivalOpen
    cases ho : s.weft.owner <;> simp [h1, ← h2, ho]
    all_goals rfl
  · rw [if_neg h]
    have : (s.tracker.armed.arrivalOpen && decide (s.tracker.counter = eventAngle s.tracker s.tracker.openDist)) = false := by
      rw [Bool.eq_false_iff]; intro hx; apply h; simpa using hx
    simp [this]; rfl

/-- ARRIVAL_CLOSE offered a step (R87, R91). -/
theorem offerArrivalClose_eq (s : State) :
    offerArrivalClose s =
      let fires := s.tracker.armed.arrivalClose && decide (s.tracker.counter = eventAngle s.tracker s.tracker.closeDist)
      ((s.setTracker { s.tracker with armed := { s.tracker.armed with arrivalClose := s.tracker.armed.arrivalClose && !fires } }).setWeft
        (if fires && s.weft.owner && s.weft.window then { s.weft with window := false, mark := false } else s.weft)).setControl
        (if (fires && s.weft.owner && s.weft.window && !s.weft.mark && s.control.node == .run) = true then (raise .weftMissing s).control else s.control) := by
  unfold offerArrivalClose
  by_cases h : s.tracker.armed.arrivalClose = true ∧ s.tracker.counter = eventAngle s.tracker s.tracker.closeDist
  · rw [if_pos h]
    obtain ⟨h1, h2⟩ := h
    unfold fireArrivalClose
    cases ho : s.weft.owner <;> cases hw : s.weft.window <;> cases hm : s.weft.mark <;> cases hn : s.control.node <;>
      simp [h1, ← h2, ho, hw, hm, hn, closeWindow] <;> rfl
  · rw [if_neg h]
    have : (s.tracker.armed.arrivalClose && decide (s.tracker.counter = eventAngle s.tracker s.tracker.closeDist)) = false := by
      rw [Bool.eq_false_iff]; intro hx; apply h; simpa using hx
    simp [this]; rfl

/-- All three offered one step, ARRIVAL_OPEN and ARRIVAL_CLOSE standing at different angles (R83, R87). -/
theorem offerEvents_eq (u : State) (T : Tracker) (hT : u.tracker = T) (hoc : eventAngle T T.openDist ≠ eventAngle T T.closeDist) :
    let feeder := T.armed.feeder && decide (T.counter = eventAngle T T.feederDist)
    let opens := T.armed.arrivalOpen && decide (T.counter = eventAngle T T.openDist)
    let closes := T.armed.arrivalClose && decide (T.counter = eventAngle T T.closeDist)
    offerEvents u =
      ((u.setTracker { T with armed := ⟨T.armed.feeder && !feeder, T.armed.arrivalOpen && !opens, T.armed.arrivalClose && !closes⟩ }).setWeft
        (if u.weft.owner then
          { u.weft with
            feeder := if feeder then presentedFeeder u.store else u.weft.feeder,
            window := opens || (u.weft.window && !closes),
            mark := u.weft.mark && !opens && !(closes && u.weft.window) }
        else u.weft)).setControl
        (if u.weft.owner = true ∧ closes = true ∧ u.weft.window = true ∧ u.weft.mark = false ∧ u.control.node = .run then
          (raise .weftMissing u).control
        else u.control) := by
  intro feeder opens closes
  have h : opens = true → closes = true → False := by
    intro h1 h2
    simp only [opens, closes, Bool.and_eq_true, decide_eq_true_eq] at h1 h2
    exact hoc (h1.2 ▸ h2.2)
  rw [offerEvents]
  have h1 : offerFeeder u = (u.setTracker { T with armed := { T.armed with feeder := T.armed.feeder && !feeder } }).setWeft
     (if feeder && u.weft.owner then { u.weft with feeder := presentedFeeder u.store } else u.weft) := by
    rw [offerFeeder_eq, hT]
  generalize hv : offerFeeder u = v at *
  have t1 : v.tracker = { T with armed := { T.armed with feeder := T.armed.feeder && !feeder } } := by rw [h1]; rfl
  have h2 : offerArrivalOpen v = (v.setTracker { T with armed := ⟨T.armed.feeder && !feeder, T.armed.arrivalOpen && !opens, T.armed.arrivalClose⟩ }).setWeft
        (if opens && v.weft.owner then { v.weft with window := true, mark := false } else v.weft) := by
    rw [offerArrivalOpen_eq, t1]; rfl
  generalize hw : offerArrivalOpen v = w at *
  have t2 : w.tracker = { T with armed := ⟨T.armed.feeder && !feeder, T.armed.arrivalOpen && !opens, T.armed.arrivalClose⟩ } := by rw [h2]; rfl
  have h3 : offerArrivalClose w = ((w.setTracker { T with armed := ⟨T.armed.feeder && !feeder, T.armed.arrivalOpen && !opens, T.armed.arrivalClose && !closes⟩ }).setWeft
        (if closes && w.weft.owner && w.weft.window then { w.weft with window := false, mark := false } else w.weft)).setControl
        (if (closes && w.weft.owner && w.weft.window && !w.weft.mark && w.control.node == .run) = true then (raise .weftMissing w).control else w.control) := by
    rw [offerArrivalClose_eq, t2]; rfl
  have c1 : w.control = u.control := by rw [h2, h1]; rfl
  rw [h3, raise_control_congr _ c1, c1, h2, h1]
  clear h1 h2 h3 t1 t2 c1 hv hw hT
  clear_value feeder opens closes
  cases u with | mk _ _ _ _ _ _ _ weft =>
  cases weft with | mk wf ww wm wo1 wo2 owner =>
  cases owner <;> cases feeder <;> cases opens <;> cases closes <;> cases ww <;> cases wm <;> simp_all [State.setTracker, State.setWeft, State.setControl]

/-! ## Crossings marked -/

theorem marked_forward {a b : Bool} {s : State} (hc : nextCount s.tracker = boundary s.tracker) :
    markCrossing .forward
        ((stepped .forward a b false s).setTracker (noteAntipode (stepped .forward a b false s).tracker)) =
      s.setTracker
        { s.tracker with
          lines := ⟨a, b, false⟩, counter := boundary s.tracker, direction := .forward, last := .forward,
          antipodeFlag := false } := by
  rw [noteAntipode_fields]
  simp [markCrossing, stepped, setTracker_setTracker, countStep_forward]
  rw [← hc]

theorem marked_reverse {a b : Bool} {s : State} (hc : prevCount s.tracker = reversePoint s.tracker) :
    markCrossing .reverse
        ((stepped .reverse a b false s).setTracker (noteAntipode (stepped .reverse a b false s).tracker)) =
      s.setTracker
        { s.tracker with
          lines := ⟨a, b, false⟩, counter := reversePoint s.tracker, direction := .reverse, last := .reverse,
          antipodeFlag := false } := by
  rw [noteAntipode_fields]
  simp [markCrossing, stepped, setTracker_setTracker, countStep_reverse]
  rw [← hc]

/-! ## A crossing -/

/-- A request for a PATTERN shift, by the table of R109. -/
theorem requestPattern_eq (s : State) :
    requestPattern s =
      (raiseAll (requestEvents s.selector) s).setSelector (requested s.selector (patternShift s.store s)) := by
  have hp : composeShift .pattern s = patternShift s.store s := rfl
  cases hs : s.selector.shift with
  | none =>
    have ha : anyPresent s = s.selector.chains.toList.any isPresent := rfl
    simp only [requestPattern, hs, startShift, hp, requested, requestEvents, raiseAll, ha]
    split <;> rfl
  | some sh =>
    cases hq : s.selector.pending with
    | none => simp [requestPattern, hs, hq, requested, requestEvents, raiseAll, setPendingShift, raise, State.setSelector, State.setControl]
    | some p =>
      cases p with
      | pattern =>
        have hx : { s.selector with pending := some .pattern } = s.selector := by
          cases hsel : s.selector; simp_all
        simp only [requestPattern, hs, hq, requested, requestEvents, raiseAll]
        simp only [hs] at hx
        rw [hx]; rfl
      | zero => simp [requestPattern, hs, hq, requested, requestEvents, raiseAll, setPendingShift, raise, State.setSelector, State.setControl]

end Sys2Proof.Machine
end

