-- ==== Sys2Proof/Laws/Store.lean ====
section
/-! SUPPORT. What a crossing does to the Pick Store and the rest of the node, said once for each direction. -/

namespace Sys2Proof.Machine

/-- Raises touch the event unit alone. -/
theorem raiseAll_eq (ks : List EventKind) (s : State) : raiseAll ks s = s.setControl (raiseAll ks s).control := by
  induction ks generalizing s with
  | nil => rfl
  | cons k ks ih =>
    simp only [raiseAll]
    rw [ih (raise k s)]
    rfl

theorem raiseAll_append (ks ls : List EventKind) (s : State) :
    raiseAll (ks ++ ls) s = raiseAll ls (raiseAll ks s) := by
  induction ks generalizing s with
  | nil => rfl
  | cons k ks ih => simp [raiseAll, ih]

theorem raiseAll_control_congr (ks : List EventKind) {s t : State} (h : s.control = t.control) :
    (raiseAll ks s).control = (raiseAll ks t).control := by
  induction ks generalizing s t with
  | nil => exact h
  | cons k ks ih => exact ih (raise_control_congr k h)

theorem raiseAll_pattern (ks : List EventKind) (p : PickStore) (s : State) :
    patternShift p (raiseAll ks s) = patternShift p s := by
  rw [raiseAll_eq]; rfl

/-- The presented entry is the one with `rewind` newer entries behind it (R43). -/
theorem presentedEntry_behind {p : PickStore} {before after : List HistoryEntry} {e : HistoryEntry}
    (h : p.history = before ++ e :: after) (hl : after.length = p.rewind) : presentedEntry p = some e := by
  have hi : (before ++ e :: after).length - 1 - after.length = before.length := by simp
  rw [presentedEntry, h, ← hl, hi]
  simp

/-- An empty history presents BLANK (R43). -/
theorem presentedEntry_blank {p : PickStore} (h : p.history = []) : presentedEntry p = none := by
  simp [presentedEntry, h]

/-- Appending to the history, with eviction (R41). -/
theorem appendHistory_eq {e : HistoryEntry} {hist : List HistoryEntry} (h : hist.length ≤ 16) :
    appendHistory e hist = hist.drop (hist.length + 1 - 16) ++ [e] := by
  unfold appendHistory Config.historySize
  split
  · have : hist.length = 16 := by omega
    rw [this]
  · simp only [show hist.length + 1 - 16 = 0 by omega, List.drop_zero]

theorem repeatEntry_eq (s : State) : repeatEntry (installed s) s.store = repeatOf s := by
  rcases h : presentedEntry s.store with _ | e <;> simp only [repeatEntry, repeatOf, h]

/-- The store after a forward crossing: the four cases of R46 with one more woven pick, and STARVED in the fourth. -/
theorem storeForward_eq {s : State} (h : s.store.history.length ≤ 16) :
    storeForward s =
      requestPattern
        ((raiseAll (if isStarved s.store then [.starved] else []) s).setStore (storeAfterForward s)) := by
  have key :
      countWoven (forwardCase s) =
        (raiseAll (if isStarved s.store then [.starved] else []) s).setStore (storeAfterForward s) := by
    unfold forwardCase storeAfterForward isStarved
    by_cases ho : 0 < s.store.overshoot
    · simp [ho, show (s.store.overshoot == 0) = false by simp; omega, raiseAll]; rfl
    · have ho' : s.store.overshoot = 0 := by omega
      by_cases hr : 0 < s.store.rewind
      · simp [ho', hr, show (s.store.rewind == 0) = false by simp; omega, raiseAll]; rfl
      · have hr' : s.store.rewind = 0 := by omega
        cases hq : s.store.queue with
        | nil =>
          simp only [ho', hr', readyHead, starvedCrossing, repeatEntry_eq, appendHistory_eq h]
          simp [raiseAll, hq]; rfl
        | cons r rest =>
          cases hst : r.state with
          | ready =>
            simp only [ho', hr', readyHead, hst, appendHistory_eq h]
            simp [raiseAll, entryOfRecord]; rfl
          | expanding =>
            simp only [ho', hr', readyHead, hst, starvedCrossing, repeatEntry_eq, appendHistory_eq h]
            simp [raiseAll, hq]; rfl
  rw [storeForward, key]

/-- The store after a reverse crossing: the two cases of R49, and REWIND_LIMIT in the second. -/
theorem storeReverse_eq (s : State) :
    storeReverse s =
      requestPattern
        ((raiseAll (if isRewindLimit s.store then [.rewindLimit] else []) s).setStore (storeAfterReverse s.store)) := by
  have key :
      reverseCase s =
        (raiseAll (if isRewindLimit s.store then [.rewindLimit] else []) s).setStore (storeAfterReverse s.store) := by
    unfold reverseCase storeAfterReverse isRewindLimit
    by_cases hc : s.store.history ≠ [] ∧ s.store.rewind < s.store.history.length - 1
    · rw [if_pos hc]
      have : (!s.store.history.isEmpty && decide (s.store.rewind < s.store.history.length - 1)) = true := by
        simp [hc.2, hc.1]
      simp [this, raiseAll]
    · rw [if_neg hc]
      have : (!s.store.history.isEmpty && decide (s.store.rewind < s.store.history.length - 1)) = false := by
        rw [Bool.eq_false_iff]; intro hx; apply hc; simpa using hx
      simp [this, raiseAll]; rfl
  rw [storeReverse, key]

/-- What a crossing drives in RUN and HALT, in one equation (R45-R50, R104, R109). -/
theorem crossing_store {ks : List EventKind} {p : PickStore} (s : State) :
    requestPattern ((raiseAll ks s).setStore p) =
      (((s.setControl (raiseAll (ks ++ requestEvents s.selector) s).control).setStore p).setSelector
        (requested s.selector (patternShift p s))) := by
  have h1 : ((raiseAll ks s).setStore p).selector = s.selector := by rw [raiseAll_eq]; rfl
  have h2 : patternShift p ((raiseAll ks s).setStore p) = patternShift p s := by
    rw [raiseAll_eq]; rfl
  rw [requestPattern_eq, h1]
  simp only [setStore_store]
  rw [h2, raiseAll_append, raiseAll_eq (requestEvents s.selector) ((raiseAll ks s).setStore p),
    raiseAll_control_congr (requestEvents s.selector) (s := (raiseAll ks s).setStore p) (t := raiseAll ks s) rfl,
    raiseAll_eq ks s]
  rfl

end Sys2Proof.Machine
end

