-- ==== Sys2Proof/Laws/Course.lean ====
section
/-! SUPPORT. What a counted step leaves of the tracker: a crossing and the pick events move LAST, the antipode flag, the armed
flags and the applied advance, and nothing else of it; it reads neither the lines, nor the direction, nor the
net step count; and no crossing raises SLIP. -/

namespace Sys2Proof.Machine

/-- `u` differs from `t` at most in LAST, the antipode flag, the armed flags and the applied advance. -/
def SameCourse (t u : Tracker) : Prop :=
  u = { t with last := u.last, antipodeFlag := u.antipodeFlag, armed := u.armed, applied := u.applied }

theorem SameCourse.refl (t : Tracker) : SameCourse t t := rfl

theorem SameCourse.trans {t u v : Tracker} (h : SameCourse t u) (k : SameCourse u v) : SameCourse t v := by
  unfold SameCourse at *; rw [k, h]

theorem SameCourse.fields {t u : Tracker} (h : SameCourse t u) :
    u.lines = t.lines ∧ u.counter = t.counter ∧ u.direction = t.direction ∧ u.angleValid = t.angleValid ∧
      u.net = t.net ∧ u.lastPass = t.lastPass ∧ u.reverseSeen = t.reverseSeen ∧ u.timer = t.timer ∧
      u.capture = t.capture ∧ u.period = t.period ∧ u.target = t.target ∧ u.selectAngle = t.selectAngle ∧
      u.latency = t.latency ∧ u.margin = t.margin ∧ u.feederDist = t.feederDist ∧ u.openDist = t.openDist ∧
      u.closeDist = t.closeDist := by
  unfold SameCourse at h; rw [h]; simp

theorem crossingEffects_course (d : Direction) (s : State) :
    SameCourse s.tracker (crossingEffects d s).tracker := by
  unfold crossingEffects
  split
  · cases d <;> simp [armEvents, disarmEvents] <;> rfl
  · rfl

theorem takeCrossing_course (d : Direction) (s : State) : SameCourse s.tracker (takeCrossing d s).tracker := by
  have h : SameCourse s.tracker (markCrossing d s).tracker := rfl
  refine (h.trans (crossingEffects_course d _)).trans ?_
  simp only [takeCrossing, moveAdvance, setTracker_tracker]; rfl

theorem examineStep_course (d : Direction) (s : State) : SameCourse s.tracker (examineStep d s).tracker := by
  have h : SameCourse s.tracker (s.setTracker (noteAntipode s.tracker)).tracker := by
    rw [noteAntipode_fields]; rfl
  unfold examineStep
  dsimp only
  split
  · exact h.trans (takeCrossing_course d _)
  · exact h

theorem offerEvents_course (s : State) : SameCourse s.tracker (offerEvents s).tracker := by
  have h1 : ∀ u : State, SameCourse u.tracker (offerFeeder u).tracker := by intro u; rw [offerFeeder_eq]; rfl
  have h2 : ∀ u : State, SameCourse u.tracker (offerArrivalOpen u).tracker := by intro u; rw [offerArrivalOpen_eq]; rfl
  have h3 : ∀ u : State, SameCourse u.tracker (offerArrivalClose u).tracker := by
    intro u; rw [offerArrivalClose_eq]; rfl
  exact ((h1 s).trans (h2 _)).trans (h3 _)

theorem followStep_course (d : Direction) (s : State) : SameCourse s.tracker (followStep d s).tracker := by
  cases d
  · exact (examineStep_course .forward s).trans (offerEvents_course _)
  · exact examineStep_course .reverse s

/-- A forward correction of `n` counts moves the counter by `n` and keeps the rest of the course (R62). -/
theorem correctForward_course (n : Nat) (s : State) (h : s.tracker.counter < 1024) :
    SameCourse { s.tracker with counter := (s.tracker.counter + n) % 1024 } (correctForward n s).tracker := by
  induction n generalizing s with
  | zero =>
    have : { s.tracker with counter := (s.tracker.counter + 0) % 1024 } = s.tracker := by
      rw [Nat.add_zero, Nat.mod_eq_of_lt h]
    rw [this]; rfl
  | succ n ih =>
    have h1 := followStep_course .forward (setCounter (countStep .forward s.tracker.counter) s)
    have hc := h1.fields.2.1
    have h2 := ih (followStep .forward (setCounter (countStep .forward s.tracker.counter) s))
      (by rw [hc]; simp [setCounter, countStep_forward]; omega)
    refine SameCourse.trans ?_ h2
    rw [hc]
    simp only [setCounter, setTracker_tracker, countStep_forward] at h1 ⊢
    unfold SameCourse at h1 ⊢
    rw [h1]
    simp only [Tracker.mk.injEq, and_true, true_and]
    omega

/-! ## A counted step reads neither the lines, nor the direction, nor the net step count -/

/-- `s` with other lines, another direction and another net step count. -/
def aside (l : Lines) (d : Direction) (n : Int) (s : State) : State :=
  s.setTracker { s.tracker with lines := l, direction := d, net := n }

/-- A counted step acts alike whatever the lines, the direction and the net step count are, and keeps them. -/
theorem followStep_aside (d : Direction) (l : Lines) (e : Direction) (n : Int) (s : State) :
    followStep d (aside l e n s) = aside l e n (followStep d s) := by
  have hraise : ∀ k (t : State), raise k (aside l e n t) = aside l e n (raise k t) := by intros; rfl
  have hreq : ∀ t : State, requestPattern (aside l e n t) = aside l e n (requestPattern t) := by
    intro t
    have h1 : (aside l e n t).selector = t.selector := rfl
    unfold requestPattern
    rw [h1]
    split
    · unfold startShift
      have : anyPresent (aside l e n t) = anyPresent t := rfl
      rw [this]; split <;> rfl
    all_goals rfl
  have hfc : ∀ t : State, forwardCase (aside l e n t) = aside l e n (forwardCase t) := by
    intro t
    unfold forwardCase
    have h1 : (aside l e n t).store = t.store := rfl
    rw [h1]
    split
    · rfl
    · split
      · rfl
      · split <;> rfl
  have hsf : ∀ t : State, storeForward (aside l e n t) = aside l e n (storeForward t) := by
    intro t
    unfold storeForward
    rw [hfc]
    exact hreq (countWoven (forwardCase t))
  have hsr : ∀ t : State, storeReverse (aside l e n t) = aside l e n (storeReverse t) := by
    intro t
    unfold storeReverse
    have : reverseCase (aside l e n t) = aside l e n (reverseCase t) := by
      unfold reverseCase
      have h1 : (aside l e n t).store = t.store := rfl
      rw [h1]; split <;> rfl
    rw [this]; exact hreq _
  have hce : ∀ dd (t : State), crossingEffects dd (aside l e n t) = aside l e n (crossingEffects dd t) := by
    intro dd t
    unfold crossingEffects
    have : weaving (aside l e n t) = weaving t := rfl
    rw [this]
    split
    · cases dd
      · simp only [hsf]; rfl
      · simp only [hsr]; rfl
    · rfl
  have htc : ∀ dd (t : State), takeCrossing dd (aside l e n t) = aside l e n (takeCrossing dd t) := by
    intro dd t
    unfold takeCrossing
    rw [show markCrossing dd (aside l e n t) = aside l e n (markCrossing dd t) from rfl, hce]
    cases dd <;> rfl
  have hex : ∀ dd (t : State), examineStep dd (aside l e n t) = aside l e n (examineStep dd t) := by
    intro dd t
    unfold examineStep
    have h1 : (aside l e n t).setTracker (noteAntipode (aside l e n t).tracker) = aside l e n (t.setTracker (noteAntipode t.tracker)) := by
      rw [noteAntipode_fields, noteAntipode_fields]; rfl
    have h2 : crossingAngle dd (aside l e n t).tracker = crossingAngle dd t.tracker := by cases dd <;> rfl
    simp only [h1, h2, htc]
    have h3 : (aside l e n t).tracker.counter = t.tracker.counter := rfl
    have h4 : ∀ u, crossingAllowed dd (aside l e n u).tracker = crossingAllowed dd u.tracker := by intros; rfl
    rw [h3, h4]
    split <;> rfl
  have hof : ∀ (t : State), offerEvents (aside l e n t) = aside l e n (offerEvents t) := by
    intro t
    have a : ∀ t, offerFeeder (aside l e n t) = aside l e n (offerFeeder t) := by
      intro t; rw [offerFeeder_eq, offerFeeder_eq]; rfl
    have b : ∀ t, offerArrivalOpen (aside l e n t) = aside l e n (offerArrivalOpen t) := by
      intro t; rw [offerArrivalOpen_eq, offerArrivalOpen_eq]; rfl
    have c : ∀ t, offerArrivalClose (aside l e n t) = aside l e n (offerArrivalClose t) := by
      intro t; rw [offerArrivalClose_eq, offerArrivalClose_eq]; rfl
    unfold offerEvents; rw [a, b, c]
  cases d
  · rw [followStep_forward, followStep_forward, hex, hof]
  · rw [followStep_reverse, followStep_reverse, hex]

/-- So does a forward correction (R62). -/
theorem correctForward_aside (k : Nat) (l : Lines) (e : Direction) (n : Int) (s : State) :
    correctForward k (aside l e n s) = aside l e n (correctForward k s) := by
  induction k generalizing s with
  | zero => rfl
  | succ k ih =>
    rw [correctForward, correctForward, ← ih, ← followStep_aside]; rfl

/-! ## SLIP is raised by no crossing and no pick event -/

/-- The record of SLIP. -/
def slipRecord (c : Control) : EventRecord := c.events[10]

theorem raise_slip {k : EventKind} (s : State) (h : kindNumber k ≠ 10) :
    slipRecord (raise k s).control = slipRecord s.control := by
  have : (kindNumber k).val ≠ 10 := fun hc => h (Fin.ext hc)
  simp [slipRecord, raise, this]

theorem requestPattern_slip (s : State) :
    slipRecord (requestPattern s).control = slipRecord s.control := by
  unfold requestPattern
  split
  · simp
  all_goals rw [raise_slip _ (by decide)]
  all_goals simp

theorem forwardCase_control (s : State) :
    (forwardCase s).control = s.control ∨ (forwardCase s).control = (raise .starved s).control := by
  unfold forwardCase
  repeat' split
  · simp
  · simp
  · simp
  · right; exact raise_control_congr _ rfl

theorem storeForward_slip (s : State) : slipRecord (storeForward s).control = slipRecord s.control := by
  rw [storeForward, requestPattern_slip]
  simp only [countWoven_frame]
  rcases forwardCase_control s with h | h
  · rw [h]
  · rw [h, raise_slip _ (by decide)]

theorem storeReverse_slip (s : State) :
    slipRecord (storeReverse s).control = slipRecord s.control := by
  rw [storeReverse, requestPattern_slip, reverseCase]
  split
  · simp
  · rw [raise_slip _ (by decide)]; simp

theorem examineStep_slip (d : Direction) (s : State) :
    slipRecord (examineStep d s).control = slipRecord s.control := by
  unfold examineStep
  dsimp only
  split
  · simp only [takeCrossing, moveAdvance_frame, crossingEffects]
    split
    · cases d <;> simp [storeForward_slip, storeReverse_slip]
    · simp
  · simp

theorem offerEvents_slip (s : State) :
    slipRecord (offerEvents s).control = slipRecord s.control := by
  rw [offerEvents, offerArrivalClose_eq]
  simp only [setControl_control]
  split
  · rw [raise_slip _ (by decide)]; simp
  · simp

theorem followStep_slip (d : Direction) (s : State) :
    slipRecord (followStep d s).control = slipRecord s.control := by
  cases d
  · rw [followStep_forward, offerEvents_slip, examineStep_slip]
  · exact examineStep_slip .reverse s

theorem correctForward_slip (n : Nat) (s : State) :
    slipRecord (correctForward n s).control = slipRecord s.control := by
  induction n generalizing s with
  | zero => rfl
  | succ n ih => rw [correctForward, ih, followStep_slip]; rfl

end Sys2Proof.Machine
end

