-- ==== Sys2Proof/Laws/Health.lean ====
section
/-! SUPPORT. What Hook Health's operations do, said once for each: settling hooks of the record under work, the number of
module records, and the words of a chain taken one after another. -/

namespace Sys2Proof.Machine

/-! ## Settling (R32, log entry 7) -/

/-- Settling a hook keeps what is settled and adds at most that hook, if it was not settled before. -/
theorem settleHook_adds (h : Nat) (forced : Bool) (s : State) :
    ∃ (added : List (Nat × Bool)) (draws : Nat),
      (added = [] ∨ (added = [(h, forced)] ∧ ∀ p ∈ s.engine.settled, p.1 ≠ h)) ∧ s.draws ≤ draws ∧
        settleHook h forced s =
          (s.setEngine { s.engine with settled := added ++ s.engine.settled }).setDraws draws := by
  unfold settleHook
  split
  · exact ⟨[], s.draws, .inl rfl, le_refl _, rfl⟩
  · rename_i hc
    simp only [Bool.or_eq_true, not_or, Bool.not_eq_true, List.any_eq_false, beq_iff_eq] at hc
    split
    · exact ⟨[(h, forced)], s.draws + 1, .inr ⟨rfl, hc.2⟩, by omega, rfl⟩
    · exact ⟨[], s.draws + 1, .inl rfl, by omega, rfl⟩

/-- Settling hooks one after another changes only what is settled and the draws, and keeps what is settled. -/
theorem settleListed_adds (es : List FaultEntry) (s : State) :
    ∃ (added : List (Nat × Bool)) (draws : Nat),
      s.draws ≤ draws ∧
        settleListed es s =
          (s.setEngine { s.engine with settled := added ++ s.engine.settled }).setDraws draws := by
  induction es generalizing s with
  | nil => exact ⟨[], s.draws, le_refl _, rfl⟩
  | cons e es ih =>
    obtain ⟨a, d, -, h2, h3⟩ := settleHook_adds e.hook true s
    obtain ⟨b, f, i2, i3⟩ := ih (settleHook e.hook true s)
    rw [h3] at i2 i3
    refine ⟨b ++ a, f, le_trans h2 (by simpa using i2), ?_⟩
    rw [settleListed, h3, i3]
    simp [State.setEngine, State.setDraws]

/-! ## The number of module records (R123) -/

@[simp] theorem setModule_length (c d : Fin 6) (k : Nat) (r : ModuleRecord) (s : State) :
    (setModule c k r s).health.modules[d.val].length = s.health.modules[d.val].length := by
  by_cases h : c = d
  · subst h; simp [setModule]
  · have : c.val ≠ d.val := fun hv => h (Fin.ext hv)
    simp [setModule, this]

theorem takeFinding_length (c d : Fin 6) (k : Nat) (e : FaultEntry) (s : State) :
    (takeFinding c k e s).health.modules[d.val].length = s.health.modules[d.val].length := by
  have hl : (listHook e s).health.modules = s.health.modules := by
    obtain ⟨a, n, -, -, h⟩ := settleHook_adds e.hook false s
    simp [listHook, h]
  unfold takeFinding
  split
  · rfl
  · split
    · unfold latchIfFull
      repeat' split
      all_goals simp [hl]
    · simp

theorem takeFindings_length (latch : Shift) (c d : Fin 6) (k h : Nat) (fs : List Finding) (s : State) :
    (takeFindings latch c k h fs s).health.modules[d.val].length = s.health.modules[d.val].length := by
  induction fs generalizing h s with
  | nil => rfl
  | cons f fs ih =>
    rw [takeFindings, ih]
    split
    · exact takeFinding_length c d k _ s
    · rfl

theorem takeOvercurrent_length (c d : Fin 6) (k : Nat) (overcurrent : Bool) (s : State) :
    (takeOvercurrent c k overcurrent s).health.modules[d.val].length = s.health.modules[d.val].length := by
  unfold takeOvercurrent strike cleanShift
  repeat' split
  all_goals simp

/-- A status word keeps the number of records of every chain (R123, R124). -/
theorem takeWord_length (latch : Shift) (c d : Fin 6) (k : Nat) (w : StatusWord) (s : State) :
    (takeWord latch c k w s).health.modules[d.val].length = s.health.modules[d.val].length := by
  have judge : ∀ (before : Bool) (t : State),
      (judgeChain c before t).health.modules[d.val].length = t.health.modules[d.val].length := by
    intro before t; unfold judgeChain; split <;> simp
  unfold takeWord
  split
  · rfl
  · rw [judge]
    split
    · rw [takePresent, takeOvercurrent_length]
      split
      · rfl
      · exact takeFindings_length latch c d k _ _ s
    · unfold loseModule; split <;> simp

/-! ## The words of a chain -/

/-- The words of a chain are taken in module order, a module without a word having its presence missing (R112, R114). -/
theorem takeChain_eq_foldl (latch : Shift) (c : Fin 6) (k n : Nat) (ws : List StatusWord) (s : State) :
    takeChain latch c k n ws s =
      (List.range n).foldl (fun t j => takeWord latch c (k + j) ((ws[j]?).getD missingWord) t) s := by
  induction n generalizing k ws s with
  | zero => rfl
  | succ n ih =>
    have h1 : ws.headD missingWord = (ws[0]?).getD missingWord := by cases ws <;> rfl
    have h2 : ∀ j, ws.tail[j]? = ws[j + 1]? := by intro j; cases ws <;> simp
    rw [takeChain, ih, List.range_succ_eq_map, List.foldl_cons, List.foldl_map]
    simp only [h1, h2, Nat.succ_eq_add_one, Nat.add_zero, Nat.add_assoc, Nat.add_comm 1]

end Sys2Proof.Machine
end

