-- ==== Sys2Proof/Laws/PerInstr.lean ====
section
/-! SUPPORT. One lemma for each command: the body of the COMMAND frame that a row stands for names the row's command. -/

namespace Sys2Proof.Laws.CommandRoundTrip

open Sys2Proof.Machine

/-- For a row that is the acting of a COMMAND frame, the bytes of its body name its command (R168, R182). -/
def Statement (i : Instr) : Prop :=
  ∀ h c pad, commandOf i = some (h, c, pad) → wellFormed i = true → decodeCommand (commandBytes c ++ pad) = some c

/-- A command that is neither LOAD DATA nor CLEAR EVENTS names itself, whatever padding follows. -/
theorem plain {i : Instr} {h : Header} {c : Command} {pad : List Byte} (hi : commandOf i = some (h, c, pad))
    (data : ∀ a b x, c ≠ .loadData a b x) (kinds : ∀ ks, c ≠ .clearEvents ks)
    (known : (∀ a b, c ≠ .configureUnknown a b) ∧ ∀ a b, c ≠ .queryUnknown a b) : Statement i := by
  intro h' c' pad' hi' _
  obtain ⟨rfl, rfl, rfl⟩ : h' = h ∧ c' = c ∧ pad' = pad := by
    rw [hi] at hi'
    simpa [eq_comm] using hi'
  exact decodeCommand_commandBytes _ _ (fun a b x e => absurd e (data a b x)) (fun ks e => absurd e (kinds ks)) known

theorem powerOn : Statement (.powerOn) := fun _ _ _ hi => by cases hi

theorem encoderStep (a b z : Bool) : Statement (.encoderStep a b z) := fun _ _ _ hi => by cases hi

theorem indexLost : Statement (.indexLost) := fun _ _ _ hi => by cases hi

theorem captureExpiry : Statement (.captureExpiry) := fun _ _ _ hi => by cases hi

theorem loomInput0Edge (level : Bool) : Statement (.loomInput0Edge level) := fun _ _ _ hi => by cases hi

theorem loomInputEdge (n : Fin 7) (level : Bool) : Statement (.loomInputEdge n level) := fun _ _ _ hi => by cases hi

theorem startDelimiter (symbols : List LineSymbol) :
    Statement (.startDelimiter symbols) := fun _ _ _ hi => by cases hi

theorem frameEnd (symbols : List LineSymbol) : Statement (.frameEnd symbols) := fun _ _ _ hi => by cases hi

theorem receptionTimeout (symbols : List LineSymbol) :
    Statement (.receptionTimeout symbols) := fun _ _ _ hi => by cases hi

theorem transmitStart : Statement (.transmitStart) := fun _ _ _ hi => by cases hi

theorem transmitEnd : Statement (.transmitEnd) := fun _ _ _ hi => by cases hi

theorem designFrame (h : Header) (body : List Byte) : Statement (.designFrame h body) := fun _ _ _ hi => by cases hi

theorem enumerate (h : Header) (body : List Byte) : Statement (.enumerate h body) := fun _ _ _ hi => by cases hi

theorem configureDesignWidth (h : Header) (index : Byte) (value : Half) (pad : List Byte) :
    Statement (.configureDesignWidth h index value pad) :=
  plain rfl (by simp) (by simp) (by simp)

theorem configureSelectAngle (h : Header) (index : Byte) (value : Half) (pad : List Byte) :
    Statement (.configureSelectAngle h index value pad) :=
  plain rfl (by simp) (by simp) (by simp)

theorem configureSelectLatency (h : Header) (index : Byte) (value : Half) (pad : List Byte) :
    Statement (.configureSelectLatency h index value pad) :=
  plain rfl (by simp) (by simp) (by simp)

theorem configureReverseMargin (h : Header) (index : Byte) (value : Half) (pad : List Byte) :
    Statement (.configureReverseMargin h index value pad) :=
  plain rfl (by simp) (by simp) (by simp)

theorem configureFeederDistance (h : Header) (index : Byte) (value : Half) (pad : List Byte) :
    Statement (.configureFeederDistance h index value pad) :=
  plain rfl (by simp) (by simp) (by simp)

theorem configureArrivalOpenDistance (h : Header) (index : Byte) (value : Half) (pad : List Byte) :
    Statement (.configureArrivalOpenDistance h index value pad) :=
  plain rfl (by simp) (by simp) (by simp)

theorem configureArrivalCloseDistance (h : Header) (index : Byte) (value : Half) (pad : List Byte) :
    Statement (.configureArrivalCloseDistance h index value pad) :=
  plain rfl (by simp) (by simp) (by simp)

theorem configureWeftOwner (h : Header) (index : Byte) (value : Half) (pad : List Byte) :
    Statement (.configureWeftOwner h index value pad) :=
  plain rfl (by simp) (by simp) (by simp)

theorem configureArrivalEdge (h : Header) (index : Byte) (value : Half) (pad : List Byte) :
    Statement (.configureArrivalEdge h index value pad) :=
  plain rfl (by simp) (by simp) (by simp)

theorem configureInputEnable (h : Header) (index : Byte) (value : Half) (pad : List Byte) :
    Statement (.configureInputEnable h index value pad) :=
  plain rfl (by simp) (by simp) (by simp)

theorem configureInputEdge (h : Header) (index : Byte) (value : Half) (pad : List Byte) :
    Statement (.configureInputEdge h index value pad) :=
  plain rfl (by simp) (by simp) (by simp)

theorem configureActionLevel (h : Header) (index : Byte) (value : Half) (pad : List Byte) :
    Statement (.configureActionLevel h index value pad) :=
  plain rfl (by simp) (by simp) (by simp)

theorem configureRestTime (h : Header) (index : Byte) (value : Half) (pad : List Byte) :
    Statement (.configureRestTime h index value pad) :=
  plain rfl (by simp) (by simp) (by simp)

theorem loadOpen (h : Header) (table first count : Byte) (pad : List Byte) :
    Statement (.loadOpen h table first count pad) :=
  plain rfl (by simp) (by simp) (by simp)

theorem loadData (h : Header) (sequence count : Byte) (entries : List Byte) :
    Statement (.loadData h sequence count entries) := by
  intro h' c pad hi _
  obtain ⟨rfl, rfl, rfl⟩ := hi
  rw [List.append_nil]
  rfl

theorem loadClose (h : Header) (pad : List Byte) : Statement (.loadClose h pad) :=
  plain rfl (by simp) (by simp) (by simp)

theorem loadAbort (h : Header) (pad : List Byte) : Statement (.loadAbort h pad) :=
  plain rfl (by simp) (by simp) (by simp)

theorem run (h : Header) (pad : List Byte) : Statement (.run h pad) := plain rfl (by simp) (by simp) (by simp)

theorem resume (h : Header) (pad : List Byte) : Statement (.resume h pad) := plain rfl (by simp) (by simp) (by simp)

theorem idle (h : Header) (pad : List Byte) : Statement (.idle h pad) := plain rfl (by simp) (by simp) (by simp)

theorem discardQueue (h : Header) (expected : Half) (pad : List Byte) : Statement (.discardQueue h expected pad) :=
  plain rfl (by simp) (by simp) (by simp)

theorem clearHistory (h : Header) (pad : List Byte) : Statement (.clearHistory h pad) :=
  plain rfl (by simp) (by simp) (by simp)

theorem clearEvents (h : Header) (kinds : List Byte) (pad : List Byte) : Statement (.clearEvents h kinds pad) := by
  intro h' c pad' hi hw
  obtain ⟨rfl, rfl, rfl⟩ := hi
  simp only [wellFormed, Bool.and_eq_true, decide_eq_true_eq] at hw
  exact decodeCommand_commandBytes _ _ (by simp) (by rintro ks ⟨⟩; exact hw.1) (by simp)

theorem clearFaultMap (h : Header) (pad : List Byte) : Statement (.clearFaultMap h pad) :=
  plain rfl (by simp) (by simp) (by simp)

theorem releaseModule (h : Header) (chain module : Byte) (pad : List Byte) :
    Statement (.releaseModule h chain module pad) :=
  plain rfl (by simp) (by simp) (by simp)

theorem queryStatus (h : Header) (space : Half) (pad : List Byte) : Statement (.queryStatus h space pad) :=
  plain rfl (by simp) (by simp) (by simp)

theorem queryEvents (h : Header) (space : Half) (pad : List Byte) : Statement (.queryEvents h space pad) :=
  plain rfl (by simp) (by simp) (by simp)

theorem queryFaultMap (h : Header) (space : Half) (pad : List Byte) : Statement (.queryFaultMap h space pad) :=
  plain rfl (by simp) (by simp) (by simp)

theorem queryModules (h : Header) (space : Half) (pad : List Byte) : Statement (.queryModules h space pad) :=
  plain rfl (by simp) (by simp) (by simp)

theorem queryTable (h : Header) (space : Half) (table first count : Byte) (pad : List Byte) :
    Statement (.queryTable h space table first count pad) :=
  plain rfl (by simp) (by simp) (by simp)

theorem queryPicks (h : Header) (space : Half) (pad : List Byte) : Statement (.queryPicks h space pad) :=
  plain rfl (by simp) (by simp) (by simp)

theorem reset (h : Header) (pad : List Byte) : Statement (.reset h pad) := plain rfl (by simp) (by simp) (by simp)

theorem sizingFlushEnd : Statement (.sizingFlushEnd) := fun _ _ _ hi => by cases hi

theorem markerPassEnd (chain : Fin 6) (p : Option (Fin 4096)) :
    Statement (.markerPassEnd chain p) := fun _ _ _ hi => by cases hi

theorem expansionRecordDone : Statement (.expansionRecordDone) := fun _ _ _ hi => by cases hi

theorem shiftEnd (status : List (List StatusWord)) : Statement (.shiftEnd status) := fun _ _ _ hi => by cases hi

theorem restTimerExpiry (chain : Fin 6) (module : Nat) :
    Statement (.restTimerExpiry chain module) := fun _ _ _ hi => by cases hi

end Sys2Proof.Laws.CommandRoundTrip
end

