-- ==== Sys2Proof/Laws/Port.lean ====
section
/-! SUPPORT. The frame stores, and what the symbols between two delimiters leave in one. -/

namespace Sys2Proof.Machine

@[simp] theorem getStore_putStore (i : StoreId) (x : FrameStore) (p : RingPort) : getStore (putStore i x p) i = x := by
  cases i <;> rfl

@[simp] theorem putStore_putStore (i : StoreId) (x y : FrameStore) (p : RingPort) :
    putStore i x (putStore i y p) = putStore i x p := by
  cases i <;> rfl

theorem getStore_putStore_ne {i j : StoreId} (h : j ≠ i) (x : FrameStore) (p : RingPort) :
    getStore (putStore i x p) j = getStore p j := by
  cases i <;> cases j <;> first | rfl | exact absurd rfl h

@[simp] theorem putStore_number (i : StoreId) (x : FrameStore) (p : RingPort) :
    (putStore i x p).number = p.number := by
  cases i <;> rfl

@[simp] theorem putStore_receiver (i : StoreId) (x : FrameStore) (p : RingPort) :
    (putStore i x p).receiver = p.receiver := by
  cases i <;> rfl

@[simp] theorem putStore_heldOrder (i : StoreId) (x : FrameStore) (p : RingPort) :
    (putStore i x p).heldOrder = p.heldOrder := by
  cases i <;> rfl

@[simp] theorem putStore_rxTimer (i : StoreId) (x : FrameStore) (p : RingPort) :
    (putStore i x p).rxTimer = p.rxTimer := by
  cases i <;> rfl

@[simp] theorem getStore_stopReceiving (i : StoreId) (p : RingPort) :
    getStore (stopReceiving p) i = getStore p i := by
  cases i <;> rfl

@[simp] theorem stopReceiving_putStore (i : StoreId) (x : FrameStore) (p : RingPort) :
    stopReceiving (putStore i x p) = putStore i x (stopReceiving p) := by
  cases i <;> rfl

@[simp] theorem stopReceiving_number (p : RingPort) : (stopReceiving p).number = p.number := rfl

/-- With frame store A sending, RING OUT carries its frame (R158). -/
theorem ringOut_A {p : RingPort} {bytes : List Byte} (h : p.storeA = .sending bytes) : ringOut p = sentSymbols bytes := by
  simp [ringOut, h, sendingBytes]

/-- With frame store B alone sending, RING OUT carries its frame (R158). -/
theorem ringOut_B {p : RingPort} {bytes : List Byte} (ha : isSending p.storeA = false) (h : p.storeB = .sending bytes) :
    ringOut p = sentSymbols bytes := by
  cases hs : p.storeA <;> simp_all [ringOut, sendingBytes, isSending]

/-- With no store sending, RING OUT carries idle (R154). -/
theorem ringOut_idle {p : RingPort} (ha : isSending p.storeA = false) (hb : isSending p.storeB = false) :
    ringOut p = [.idle] := by
  cases hs : p.storeA <;> cases ht : p.storeB <;> simp_all [ringOut, sendingBytes, isSending]

@[simp] theorem isSending_sentStore (x : FrameStore) : isSending (sentStore x) = false := by cases x <;> rfl

/-- A store that is not SENDING is left as it is. -/
theorem sentStore_other {x : FrameStore} (h : isSending x = false) : sentStore x = x := by
  cases x <;> simp_all [isSending, sentStore]

/-- After the end of a sending RING OUT carries idle (R154, R158). -/
theorem endSending_ringOut (s : State) : ringOut (endSending s).port = [.idle] :=
  ringOut_idle (isSending_sentStore _) (isSending_sentStore _)

/-- The symbols put into a FILLING store one by one: the first 2,048 bytes are kept, more bytes set the over-length mark, an
error symbol the line-code error mark (R154, R156). -/
theorem foldl_storeSymbol (symbols : List LineSymbol) (bytes : List Byte) (long bad : Bool) (h : bytes.length ≤ 2048) :
    symbols.foldl storeSymbol (.filling bytes long bad) =
      .filling ((bytes ++ symbolBytes symbols).take 2048) (long || decide (2048 < (bytes ++ symbolBytes symbols).length))
        (bad || decide (LineSymbol.error ∈ symbols)) := by
  induction symbols generalizing bytes long bad with
  | nil =>
    have : ¬2048 < bytes.length := by omega
    simp [symbolBytes, this, List.take_of_length_le h]
  | cons y ys ih =>
    cases y with
    | byte b =>
      simp only [List.foldl_cons, storeSymbol]
      by_cases hb : bytes.length < 2048
      · rw [if_pos hb, ih _ _ _ (by simp; omega)]
        simp [symbolBytes]
      · rw [if_neg hb, ih _ _ _ h]
        have hl : bytes.length = 2048 := by omega
        simp [symbolBytes, hl]
    | idle => simp only [List.foldl_cons, storeSymbol]; rw [ih _ _ _ h]; simp [symbolBytes]
    | error => simp only [List.foldl_cons, storeSymbol]; rw [ih _ _ _ h]; simp [symbolBytes]

/-- What the symbols since the start delimiter leave in the store being filled. -/
theorem receiveSymbols_filling {i : StoreId} {p : RingPort} (symbols : List LineSymbol) (hr : p.receiver = .receiving i)
    (hg : getStore p i = .filling [] false false) :
    receiveSymbols symbols p =
      putStore i
        (.filling ((symbolBytes symbols).take 2048) (decide (2048 < (symbolBytes symbols).length))
          (decide (LineSymbol.error ∈ symbols))) p := by
  have h := foldl_storeSymbol symbols [] false false (by simp)
  simp only [List.nil_append, Bool.false_or] at h
  unfold receiveSymbols
  rw [hr]
  simp only [hg, h]

/-- A frame with an error symbol in it is bad by its line code (R156). -/
theorem checkFrame_line (bytes : List Byte) (long : Bool) : checkFrame bytes long true = .bad .line := rfl

/-- A frame with too many bytes and no error symbol is bad by its length (R156). -/
theorem checkFrame_long (bytes : List Byte) : checkFrame bytes true false = .bad .length := rfl

/-- A frame with no mark is judged by its bytes (R156). -/
theorem checkFrame_plain (bytes : List Byte) : checkFrame bytes false false = checkBytes bytes := rfl

end Sys2Proof.Machine
end

