-- ==== Sys2Proof/Laws/Queue.lean ====
section
/-! SUPPORT. The Pick Queue and the backlog: what acceptance requires, what the completion of a record does to the queue, and
what a command does to the store. -/

namespace Sys2Proof.Machine

/-- What an accepted DESIGN body says of the state and of its row (R171). -/
theorem judgeDesign_accepted {body : List Byte} {row : DesignRow} {s : State} (h : judgeDesign body s = .accepted)
    (hd : decodeDesign body = some row) :
    s.control.node ≠ .init ∧ s.load = none ∧ rowOk s.tables.width row = true ∧ s.admission.lastAccepted ≠ some row.pick ∧
      row.pick = s.admission.expected ∧ tieReady s.tables = true ∧
      (∀ r ∈ row.runs, codeReady s.tables r.code = true) ∧ (feederAt s.tables row.colour).isSome = true ∧
      row.count ≤ queueFree s ∧ s.engine.backlog.length < 2 := by
  unfold judgeDesign at h
  rw [hd] at h
  simp only [judgeRow] at h
  split at h; · cases h
  split at h; · cases h
  split at h
  rotate_left; · cases h
  rename_i h1 h2 h3
  repeat (split at h; · cases h)
  rename_i h4 h5 h6 h7 h8 h9
  simp only [not_or, Nat.not_lt, Nat.not_le, Config.backlogSize] at h9
  refine ⟨h1, by simpa using h2, h3, h4, by simpa using h5, by simpa using h6, by simpa using h7, ?_, h9.1, h9.2⟩
  exact Option.isSome_iff_ne_none.mpr h8

@[simp] theorem updateUnderWork_length (f : LiftRecord → LiftRecord) (q : List LiftRecord) :
    (updateUnderWork f q).length = q.length := by
  induction q with
  | nil => rfl
  | cons r rs ih => unfold updateUnderWork; split <;> simp [ih]

/-- The change of the record under work keeps what it keeps of that record, all along the queue. -/
theorem updateUnderWork_map {α : Type} (f : LiftRecord → LiftRecord) (key : LiftRecord → α) (hf : ∀ r, key (f r) = key r)
    (q : List LiftRecord) : (updateUnderWork f q).map key = q.map key := by
  induction q with
  | nil => rfl
  | cons r rs ih => unfold updateUnderWork; split <;> simp [ih, hf]

/-- Where the record under work stands: the first EXPANDING one is changed, and no other. -/
theorem updateUnderWork_append (f : LiftRecord → LiftRecord) (before after : List LiftRecord) (r : LiftRecord)
    (hb : ∀ x ∈ before, x.state = .ready) (hr : r.state = .expanding) :
    updateUnderWork f (before ++ r :: after) = before ++ f r :: after := by
  induction before with
  | nil => simp [updateUnderWork, hr]
  | cons x xs ih =>
    have hx : x.state = .ready := hb x (by simp)
    simp only [List.cons_append, updateUnderWork, hx]
    rw [ih fun y hy => hb y (by simp [hy])]
    simp

/-- The record under work where it stands. -/
theorem recordUnderWork_append (before after : List LiftRecord) (r : LiftRecord) (hb : ∀ x ∈ before, x.state = .ready)
    (hr : r.state = .expanding) : recordUnderWork (before ++ r :: after) = some r := by
  unfold recordUnderWork
  rw [List.find?_append, List.find?_eq_none.mpr (fun x hx => by simp [hb x hx])]
  simp [hr]

/-- Completing a record READIES one record in place, or nothing (R24, R33). -/
theorem recordDone_queue (s : State) :
    (recordDone s).store.queue = s.store.queue ∨
      ∃ lifts mark, (recordDone s).store.queue = updateUnderWork (finishRecord lifts mark) s.store.queue := by
  unfold recordDone
  split
  · rename_i row _ r _ _
    refine .inr ⟨recordLifts s row r, recordMark s row, ?_⟩
    unfold completeRecord
    simp only []
    split <;> simp [nextRecord, *]
  · exact .inl rfl

/-- The completion of a record leaves no hook settled (R24, log entry 7). -/
theorem recordDone_settled {s : State} (h : s.engine.settled = []) : (recordDone s).engine.settled = [] := by
  unfold recordDone; split
  · simp [completeRecord, nextRecord]
  · exact h

theorem recordsDone_settled (n : Nat) {s : State} (h : s.engine.settled = []) :
    (recordsDone n s).engine.settled = [] := by
  induction n generalizing s with
  | zero => exact h
  | succ n ih => exact ih (recordDone_settled h)

/-- What a command does to the Pick Store: nothing, or it empties the queue, the history, or all (R52, R53, R55). -/
theorem performCommand_store (c : Command) (s : State) :
    (performCommand c s).state.store = s.store ∨ (performCommand c s).state.store = { s.store with queue := [] } ∨
      (performCommand c s).state.store = { s.store with history := [], rewind := 0, overshoot := 0 } ∨
      (performCommand c s).state.store = ⟨[], [], 0, 0, 0⟩ := by
  cases c <;> simp only [performCommand]
  case discardQueue => unfold cmdDiscard; split <;> simp [refuse, discardWork]
  case clearHistory => unfold cmdClearHistory; split <;> simp [refuse, accept]
  case reset => right; right; right; simp [cmdReset, accept, resetNode, emptyStore]
  all_goals left; simp [cmdConfigureUnknown, refuse]

end Sys2Proof.Machine
end

