-- ==== Sys2Proof/Laws/Steps.lean ====
section
/-! SUPPORT. What a step can do, said once: a predicate that every one of the block's operations keeps is kept by every
step. -/

namespace Sys2Proof.Machine

/-- A good COMMAND frame leaves the state alone or performs its command, which in INIT is then a query or RESET (R160,
R182). -/
theorem actCommand_state (f : Frame) (c : Option Command) (s : State) :
    (actCommand f c s).state = s ∨
      ∃ x, c = some x ∧ (s.control.node = .init → (isQuery x || isReset x) = true) ∧
        (actCommand f c s).state = (performCommand x s).state := by
  have key : ∀ b, (executeCommand b c s).state = s ∨
      ∃ x, c = some x ∧ (s.control.node = .init → (isQuery x || isReset x) = true) ∧
        (executeCommand b c s).state = (performCommand x s).state := by
    intro b
    unfold executeCommand
    cases c with
    | none => exact .inl rfl
    | some x =>
      simp only []
      split
      · exact .inl rfl
      · split
        · exact .inl rfl
        · rename_i h2
          refine .inr ⟨x, rfl, fun hn => ?_, rfl⟩
          cases hq : isQuery x || isReset x
          · exact absurd ⟨hn, hq⟩ h2
          · rfl
  unfold actCommand
  split
  · exact .inl rfl
  · split
    · exact key true
    · split
      · exact key false
      · exact .inl rfl

/-- A good DESIGN frame leaves the state alone, raises PICK_REFUSED, or accepts the row it carries (R171, R174, R179). -/
theorem applyDesign_state (body : List Byte) (s : State) :
    applyDesign (judgeDesign body s) body s = s ∨
      applyDesign (judgeDesign body s) body s = raise .pickRefused s ∨
        ∃ row, judgeDesign body s = .accepted ∧ decodeDesign body = some row ∧
          applyDesign (judgeDesign body s) body s = acceptRow row s := by
  generalize judgeDesign body s = o
  unfold applyDesign
  split
  · split
    · rename_i row h
      exact .inr (.inr ⟨row, rfl, h, rfl⟩)
    · exact .inl rfl
  · exact .inl rfl
  · exact .inr (.inl rfl)

/-- A predicate that the operations of the block keep is kept by every step. The Ring Port's own fields must not matter to
it. -/
theorem step_keeps {P : State → Prop}
    (port : ∀ s x, P s → P (s.setPort x))
    (pending : ∀ s x, P s → P (s.setPending x))
    (event : ∀ k s, P s → P (raise k s))
    (power : ∀ s, P s → P (powerOnNode s))
    (lines : ∀ a b z s, P s → P (encoderLines a b z s))
    (lost : ∀ s, P s → s.tracker.angleValid = true → P (loseIndex s))
    (capture : ∀ s, P s → P (expireCapture s))
    (input : ∀ level s, P s → P (inputZero level s))
    (inputs : ∀ n level s, P s → P (inputLevel n level s))
    (row : ∀ body row s, P s → judgeDesign body s = .accepted → decodeDesign body = some row → P (acceptRow row s))
    (command : ∀ c s, P s → (s.control.node = .init → (isQuery c || isReset c) = true) → P (performCommand c s).state)
    (flush : ∀ s, P s → P (endFlush s))
    (marker : ∀ c p s, P s → P (endMarkerPass c p s))
    (record : ∀ s, P s → P (recordDone s))
    (shift : ∀ status s, P s → P (endShift status s))
    (rest : ∀ c k s, P s → P (expireRest c k s))
    (time : ∀ s, P s → P ((s.setTracker (tickTimer s.tracker)).setHealth (tickHealth s.health)))
    {s t : State} (hs : P s) (h : step s = .next t) : P t := by
  have design : ∀ f s, P s → P (keepActed (actDesign f s)) := by
    intro f s hs
    refine port _ _ ?_
    unfold actDesign
    split
    · exact hs
    · show P (applyDesign (judgeDesign f.body s) f.body s)
      rcases applyDesign_state f.body s with h1 | h1 | ⟨r, h1, h2, h3⟩
      · rw [h1]; exact hs
      · rw [h1]; exact event _ _ hs
      · rw [h3]; exact row _ _ _ hs h1 h2
  have act : ∀ f c s, P s → P (keepActed (actCommand f c s)) := by
    intro f c s hs
    refine port _ _ ?_
    rcases actCommand_state f c s with h1 | ⟨x, _, h1, h2⟩
    · rw [h1]; exact hs
    · rw [h2]; exact command _ _ hs h1
  have enumerate : ∀ f s, P s → P (keepActed (actEnumerate f s)) := by
    intro f s hs
    refine port _ _ ?_
    unfold actEnumerate
    split
    · exact hs
    · split
      · split <;> exact hs
      · unfold takeNumber
        split <;> exact port _ _ hs
  have finish : ∀ i s, P s → P (finishFrame i s) := by
    intro i s hs
    unfold finishFrame
    split
    · split
      · refine port _ _ ?_
        unfold actFrame
        split
        · exact design _ _ hs
        · split
          · exact act _ _ _ hs
          · split
            · exact enumerate _ _ hs
            · exact port _ _ hs
      · exact port _ _ (event _ _ hs)
    all_goals exact hs
  have expire : ∀ s, P s → P (expireReception s) := by
    intro s hs
    unfold expireReception
    split
    · exact hs
    · exact event _ _ (port _ _ hs)
    · exact event _ _ (port _ _ hs)
  have deliver : ∀ h c pad s, P s → P (deliver h c pad s) := fun h c pad s hs => act _ _ _ hs
  unfold step at h
  split at h
  · obtain rfl := Host.Outcome.next.inj h
    unfold tick tickReception
    have := time s hs
    split
    · exact this
    · split
      · exact expire _ this
      · exact port _ _ this
  · rename_i c rest' front
    clear front
    have hp := pending s rest' hs
    generalize s.setPending rest' = u at h hp
    cases c <;> obtain rfl := Host.Outcome.next.inj h
    case powerOn => exact power _ hp
    case encoderStep => exact lines _ _ _ _ hp
    case indexLost =>
      split
      · exact lost _ hp ‹_›
      · exact hp
    case captureExpiry => exact capture _ hp
    case loomInput0Edge => exact input _ _ hp
    case loomInputEdge => exact inputs _ _ _ hp
    case startDelimiter symbols =>
      unfold beginFrame
      have hcut : P (cutShort (u.setPort (receiveSymbols symbols u.port))) := by
        unfold cutShort
        split
        · exact port _ _ hp
        · exact port _ _ (port _ _ hp)
        · exact finish _ _ (port _ _ (port _ _ hp))
      split
      · exact port _ _ hcut
      · exact event _ _ (port _ _ hcut)
    case frameEnd symbols =>
      unfold endDelimiter
      split
      · exact port _ _ hp
      · exact port _ _ (port _ _ hp)
      · exact finish _ _ (port _ _ (port _ _ hp))
    case receptionTimeout => exact expire _ (port _ _ hp)
    case transmitStart =>
      unfold startSending
      split
      · exact hp
      · split
        · exact port _ _ hp
        · exact hp
    case transmitEnd => exact port _ _ hp
    case designFrame => exact design _ _ hp
    case enumerate => exact enumerate _ _ hp
    case sizingFlushEnd => exact flush _ hp
    case markerPassEnd => exact marker _ _ _ hp
    case expansionRecordDone => exact record _ hp
    case shiftEnd => exact shift _ _ hp
    case restTimerExpiry => exact rest _ _ _ hp
    all_goals exact deliver _ _ _ _ hp

/-- A predicate to which tracker and weft unit do not matter, and that events and crossings keep, is kept by a change of the
encoder lines. -/
theorem encoderLines_keeps {P : State → Prop} (tracker : ∀ s x, P s → P (s.setTracker x))
    (weft : ∀ s x, P s → P (s.setWeft x)) (event : ∀ k s, P s → P (raise k s))
    (fwd : ∀ s, P s → weaving s = true → P (storeForward s)) (rev : ∀ s, P s → weaving s = true → P (storeReverse s))
    (a b z : Bool) (s : State) (hs : P s) : P (encoderLines a b z s) := by
  have examine : ∀ d s, P s → P (examineStep d s) := by
    intro d s hs
    unfold examineStep
    simp only []
    split
    · unfold takeCrossing moveAdvance
      refine tracker _ _ ?_
      unfold crossingEffects
      split
      · cases d
        · exact tracker _ _ (fwd _ (tracker _ _ (tracker _ _ hs)) ‹_›)
        · exact weft _ _ (tracker _ _ (rev _ (tracker _ _ (tracker _ _ hs)) ‹_›))
      · exact tracker _ _ (tracker _ _ hs)
    · exact tracker _ _ hs
  have feeder : ∀ s, P s → P (offerFeeder s) := by
    intro s hs
    unfold offerFeeder
    split
    · unfold fireFeeder
      split
      · exact weft _ _ (tracker _ _ hs)
      · exact tracker _ _ hs
    · exact hs
  have opens : ∀ s, P s → P (offerArrivalOpen s) := by
    intro s hs
    unfold offerArrivalOpen
    split
    · unfold fireArrivalOpen
      split
      · exact weft _ _ (tracker _ _ hs)
      · exact tracker _ _ hs
    · exact hs
  have closes : ∀ s, P s → P (offerArrivalClose s) := by
    intro s hs
    unfold offerArrivalClose
    split
    · unfold fireArrivalClose
      split
      · refine weft _ _ ?_
        split
        · exact event _ _ (tracker _ _ hs)
        · exact tracker _ _ hs
      · exact tracker _ _ hs
    · exact hs
  have follow : ∀ d s, P s → P (followStep d s) := by
    intro d s hs
    cases d
    · exact closes _ (opens _ (feeder _ (examine _ _ hs)))
    · exact examine _ _ hs
  have correct : ∀ n s, P s → P (correctForward n s) := by
    intro n
    induction n with
    | zero => exact fun s hs => hs
    | succ n ih => exact fun s hs => ih _ (follow _ _ (tracker _ _ hs))
  have judge : ∀ d s, P s → P (judgeIndex d s) := by
    intro d s hs
    unfold judgeIndex correctCounter
    simp only []
    have : P (if 3 ≤ (deviation s.tracker.counter (impliedCounter d)).natAbs then raise .slip s else s) := by
      split
      · exact event _ _ hs
      · exact hs
    split
    · exact correct _ _ this
    · split
      · exact tracker _ _ this
      · exact this
  have effects : ∀ d z s, P s → P (encoderStepEffects d z s) := by
    intro d z s hs
    have ends : ∀ s, P s → P (if z then indexPass d s else plainStep d s) := by
      intro s hs
      split
      · unfold indexPass
        refine tracker _ _ ?_
        split
        · exact judge _ _ hs
        · exact tracker _ _ hs
      · unfold plainStep
        simp only []
        split
        · split
          · unfold loseIndex
            exact weft _ _ (tracker _ _ (event _ _ (tracker _ _ (tracker _ _ hs))))
          · exact tracker _ _ hs
        · exact tracker _ _ hs
    refine ends _ ?_
    split
    · exact follow _ _ (tracker _ _ hs)
    · exact tracker _ _ hs
  unfold encoderLines
  simp only []
  split
  · exact effects _ _ _ (tracker _ _ hs)
  · exact tracker _ _ hs

/-- A predicate that tracker, weft unit and events cannot break is kept when the index is lost. -/
theorem loseIndex_keeps {P : State → Prop} (tracker : ∀ s x, P s → P (s.setTracker x))
    (weft : ∀ s x, P s → P (s.setWeft x)) (event : ∀ k s, P s → P (raise k s)) (s : State) (hs : P s) :
    P (loseIndex s) :=
  weft _ _ (tracker _ _ (event _ _ (tracker _ _ hs)))

end Sys2Proof.Machine
end

