-- ==== Sys2Proof/Tests/Slice0.lean ====
section
/-! SUPPORT. Tests: the checks of WellFormed on ill-formed terms, worked examples of the spec, and for every obligation with
hypotheses a witness that meets them. -/

namespace Sys2Proof.Tests

open Sys2Proof Sys2Proof.Machine

/-! ## Small states and frames -/

/-- A header with a destination, tag 0 and every slot untouched. -/
def header (dest : Byte) : Header := { dest := dest, tag := 0, slots := Vector.replicate 4 untouchedSlot }

/-- What a command leaves. -/
def after (c : Instr) (s : State) : State :=
  match exec c s with
  | .next t => t
  | .fault _ => s
  | .refused _ => s

/-- The outcome in node 0's slot of the frame an action left. -/
def outcome (s : State) : Option Nat := s.port.acted.map fun f => (f.slots[(0 : Fin 4)].extractLsb' 12 4).toNat

/-- The body of the frame an action left. -/
def reply (s : State) : Option (List Byte) := s.port.acted.map Frame.body

/-- Node 0 in a node state, sized with SC0 of two modules. -/
def node (n : NodeState) : State :=
  (((State.reset.setPort { State.reset.port with number := some 0 }).setSelector
          { State.reset.selector with chains := State.reset.selector.chains.set 0 (.present 2), sizing := .done }).setHealth
      { State.reset.health with modules := State.reset.health.modules.set 0 [freshModule, freshModule] }).setControl
    { State.reset.control with node := n }

/-- The node with the shaft at a counter value, a valid angle, select angle 300 and advance 20 (boundary 280, antipode 792,
reverse point 264), the lines at B low and A low. -/
def shaft (n : NodeState) (counter : Nat) : State :=
  (node n).setTracker
    { State.reset.tracker with
      counter := counter, angleValid := true, selectAngle := 300, latency := 2400, period := some 119900, target := 20,
      applied := 20 }

/-- The eight-end satin of 01_pattern_tables.md: cell (e, y) is 1 when e = 3 y mod 8. -/
def satin : Geometry := ⟨8, 8, 0, (List.range 64).map fun i => i % 8 == (3 * (i / 8)) % 8⟩

/-- The node with slot 0 LOADED, codes 0 and 1 MAPPED to it, colour 0 MAPPED to feeder 3, design width 8. -/
def tabled (n : NodeState) : State :=
  (node n).setTables
    { State.reset.tables with
      weaves := State.reset.tables.weaves.set 0 (.loaded satin),
      codes := (State.reset.tables.codes.set 0 (.mapped ⟨0, 0, 0, 0⟩)).set 1 (.mapped ⟨0, 1, 0, 0⟩),
      wefts := State.reset.tables.wefts.set 0 (.mapped 3), width := 8,
      tie := [⟨0, 8, .asc, 0, 0, .figure, none⟩, ⟨8, 8, .desc, 7, 7, .figure, none⟩] }

/-- A DESIGN body with one run of code 0. -/
def designBody (pick colour count width : Nat) : List Byte :=
  be16 pick ++ [byteOf colour, byteOf count] ++ be16 1 ++ [0] ++ be16 width

/-- Node 0 receiving into store A. -/
def receiving (n : NodeState) : State :=
  (node n).setPort
    { (node n).port with storeA := .filling [] false false, receiver := .receiving .A, rxTimer := some 20000 }

/-! ## WellFormed refuses each kind of ill-formed term -/

theorem test_body_too_long_refused : wellFormed (.designFrame (header 0) (List.replicate 2033 0)) = false := by
  simp only [wellFormed, bodyFits, List.length_replicate]
  decide

theorem test_command_too_long_refused : wellFormed (.run (header 0) (List.replicate 2032 0)) = false := by
  simp only [wellFormed, commandFits, bodyFits, commandBytes, List.length_append, List.length_replicate]
  decide

theorem test_too_many_kinds_refused : wellFormed (.clearEvents (header 0) (List.replicate 256 0) []) = false := by
  simp only [wellFormed, List.length_replicate]
  rfl

theorem test_seven_chains_refused : wellFormed (.shiftEnd (List.replicate 7 [])) = false := by decide

theorem test_long_chain_refused : wellFormed (.shiftEnd [List.replicate 129 missingWord]) = false := by
  simp [wellFormed, statusFits]

theorem test_module_number_refused : wellFormed (.restTimerExpiry 0 128) = false := by decide

/-! ## Worked examples and tables of the spec -/

/-- R159: the CRC of the nine ASCII digits. -/
theorem test_crc_of_digits :
    crc16 [0x31, 0x32, 0x33, 0x34, 0x35, 0x36, 0x37, 0x38, 0x39] = 0x29B1#16 := by decide +kernel

/-- 04_shaft_tracking.md, "Example: advance arithmetic": targets and derived angles. -/
theorem test_target_advance :
    targetAdvance 2400 (some 119900) = 20 ∧ targetAdvance 2400 (some 110000) = 22 ∧ targetAdvance 10000 (some 30000) = 255 ∧
      slew 14 20 = 18 ∧ slew 18 20 = 20 ∧ nextPeriod 120000 (some 119900) = some 119900 := by decide

/-- The same example: boundary 280, antipode 792, reverse point 264. -/
theorem test_derived_angles :
    boundary (shaft .run 0).tracker = 280 ∧ antipode (shaft .run 0).tracker = 792 ∧
      reversePoint (shaft .run 0).tracker = 264 := by decide

/-- "Example: a run of index passes", pass 2: an interval over the timer's wrap. -/
theorem test_interval_wraps : interval 16700000 43216 = 120432 := by decide

/-- "Example: index passes": the deviations of the rows. -/
theorem test_deviations :
    deviation 2 0 = 2 ∧ deviation 1021 0 = -3 ∧ deviation 40 0 = 40 ∧ deviation 1023 1023 = 0 ∧ deviation 3 1023 = 4 := by
  decide

/-- "Example: index passes", row 3: the correction ends at 0 with SLIP. -/
theorem test_forward_correction :
    let t := after (.encoderStep true false true) (shaft .idle 1020)
    t.tracker.counter = 0 ∧ t.control.events[(10 : Fin 26)].count = 1 := by decide

/-- R59: a reverse step moves the counter from 0 to 1023. -/
theorem test_reverse_wraps : (after (.encoderStep false true false) (node .idle)).tracker.counter = 1023 := by decide

/-- 05_pick_events_weft_and_loom_inputs.md: select angle 900 gives event angles 4 and 196. -/
theorem test_event_angles :
    eventAngle { State.reset.tracker with selectAngle := 900 } 128 = 4 ∧
      eventAngle { State.reset.tracker with selectAngle := 900 } 320 = 196 := by decide

/-- "Example: moving the arrival window", commands 1 to 3: RANGE, RANGE, ACCEPTED with the value held in the reply. -/
theorem test_moving_the_window :
    outcome (after (.configureArrivalOpenDistance (header 0) 0 700 []) (node .idle)) = some 5 ∧
      outcome (after (.configureArrivalCloseDistance (header 0) 0 740 []) (node .idle)) = some 5 ∧
      reply (after (.configureArrivalCloseDistance (header 0) 0 730 []) (node .idle))
        = some [0x07, 0x00, 0x02, 0xDA] := by decide

/-- 06_selector_chains.md, the sizing example: 2,048 periods are 128 modules, 2,080 are over length. -/
theorem test_chain_sizes :
    sizeOfMarker (some 2047) = .present 128 ∧ sizeOfMarker (some 1535) = .present 96 ∧ sizeOfMarker (some 2079) = .absent ∧
      overLength (some 2079) = true := by decide

/-- 02_pick_expansion.md, "one row through the tables": end index and cell, from row 5 of the satin. -/
theorem test_lifts_of_the_satin :
    let t := (tabled .idle).tables
    let row : BacklogRow := ⟨120, 1, 8, [⟨0, 2⟩, ⟨1, 6⟩], 0⟩
    let snap : Vector (Option Nat) 16 := (Vector.replicate 16 none).set 0 (some 5)
    hookLift t row snap 0 = false ∧ hookLift t row snap 2 = true ∧ hookLift t row snap 7 = false ∧
      hookLift t row snap 8 = false ∧ hookLift t row snap 15 = false := by decide

/-- 02_pick_expansion.md, "backlog, crossings and rollback": counter 3 less 6 records, of 8 rows, is 5. -/
theorem test_roll_back : rollBack (.loaded satin) 3 6 = 5 := by decide

/-- 10_pick_admission.md: a row in expected order is accepted, and the counter of slot 0 moves on by its records. -/
theorem test_design_accepted :
    let t := after (.designFrame (header 0xFF) (designBody 0 0 2 8)) (tabled .run)
    outcome t = some 0 ∧ t.store.queue.length = 2 ∧ t.engine.rowCounters[(0 : Fin 16)] = 2 := by decide

/-- 10_pick_admission.md: a repeat of the last accepted pick is answered REPEAT and changes nothing. -/
theorem test_design_repeated :
    let t := after (.designFrame (header 0xFF) (designBody 0 0 2 8)) (tabled .run)
    let u := after (.designFrame (header 0xFF) (designBody 0 0 2 8)) t
    outcome u = some 1 ∧ u.store = t.store ∧ u.control = t.control := by decide

/-- 09_the_pick_ring.md, "enumeration with a node weaving": a node in IDLE takes number 1 and forwards 2. -/
theorem test_enumeration :
    let t := after (.enumerate (header 0xFF) [1]) ((node .idle).setPort State.reset.port)
    t.port.number = some 1 ∧ reply t = some [2] := by decide

/-- 09_the_pick_ring.md, "a query cut to its reply space": the cut reply fills the space and sets the truncated bit. -/
theorem test_query_cut :
    let t := after (.queryStatus (header 0) 0x0005 [0, 0]) (node .idle)
    reply t = some [0x01, 0x00, 0x00, 0x00, 0x00] ∧
      (t.port.acted.map fun f => f.slots[(0 : Fin 4)]) = some 0x0488#16 := by decide

/-- 11_commands_and_table_loading.md, "a tie load with a lost reply", frames 1 and 7 of a load of no segment. -/
theorem test_empty_tie_load :
    let t := after (.loadOpen (header 0) 3 0 0 []) (node .idle)
    t.tables.tieValid = false ∧ reply t = some [0] ∧
      (after (.loadClose (header 0) []) t).tables.tieValid = true := by decide

/-- 07_hook_and_module_health.md, "strikes, rest and recovery": the third strike latches. -/
theorem test_third_strike_latches :
    ((strike 0 0 ⟨.active, 2, 8⟩ (node .run)).health.modules[(0 : Fin 6)])[0]? = some ⟨.latched, 3, 0⟩ ∧
      (strike 0 0 ⟨.active, 2, 8⟩ (node .run)).control.node = .halt := by decide

/-- R182: in INIT a command that is no query and not RESET gets NOT_READY. -/
theorem test_not_ready_in_init : outcome (after (.run (header 0) []) (node .init)) = some 14 := by decide

/-- A COMMAND frame received byte by byte, with its CRC, runs its command (R156). -/
theorem test_frame_end_runs_the_command :
    let f := commandFrame (header 0) .clearHistory []
    let t := after (.frameEnd ((frameBytes f).map .byte)) (receiving .idle)
    isHeld t.port.storeA = true ∧ outcome t = some 0 ∧ t.port.receiver = .waiting := by decide +kernel

/-- R106: the outermost module's magnet 15 is clocked first, module 0's magnet 0 last; R100: an ABSENT chain is not driven. -/
theorem test_chain_order :
    let lift := fun h : Nat => (List.range 32).map (· == h)
    let s := fun h : Nat => (node .run).setSelector { (node .run).selector with shift := some ⟨.pattern, none, lift h⟩ }
    (chainOutputs (s 31) 0).clocked.head? = some true ∧ (chainOutputs (s 0) 0).clocked.getLast? = some true ∧
      (chainOutputs (s 16) 0).clocked[15]? = some true ∧ chainOutputs (s 0) 1 = ⟨[], false, true⟩ := by
  decide

/-- R89: with 3 held, FEEDER 3 is active and the others are not; with 0 held none is. -/
theorem test_feeder_outputs :
    (feederOutputs (setFeeder 3 (node .run))).toList = [false, false, true, false, false, false, false, false] ∧
      (feederOutputs (node .run)).toList = List.replicate 8 false := by
  decide

/-- R154, R158: two bytes on RING OUT, and idle after the end of a sending and after a power-on that cuts it off. -/
theorem test_ring_out :
    let s := (node .run).setPort { (node .run).port with storeB := .sending [0x41, 0x42] }
    ringOut s.port = [.startDelimiter, .byte 0x41, .byte 0x42, .endDelimiter, .idle] ∧
      ringOut (after .transmitEnd s).port = [.idle] ∧ ringOut (after .powerOn s).port = [.idle] := by
  decide

/-- R43: with a rewind depth of 1 the entry before the newest is presented. -/
theorem test_presented_rewound :
    let e : HistoryEntry := ⟨some ⟨7, 0⟩, 3, [true, false], .queue⟩
    let p : PickStore := ⟨[], [e, { e with id := some ⟨8, 0⟩, feeder := 5 }], 1, 0, 2⟩
    presentedSource p = some ⟨7, 0⟩ ∧ presentedFeeder p = 3 ∧ presentedLift p 0 = true ∧ presentedLift p 2 = false := by
  decide

/-! ## Witnesses: what meets the hypotheses of each obligation, clause by clause, at boundary values -/

/-- A range lies in its table, by what is asked of a range of the tie. -/
abbrev inTable (table first count : Byte) (tie : Bool) : Bool :=
  decide (((table = 0x01#8 ∨ table = 0x02#8) ∧ first.toNat ≤ 15 ∧ 1 ≤ count.toNat ∧ first.toNat + count.toNat ≤ 16) ∨
    (table = 0x03#8 ∧ tie = true) ∨
    (table = 0x04#8 ∧ first.toNat ≤ 7 ∧ 1 ≤ count.toNat ∧ first.toNat + count.toNat ≤ 8))

theorem witness_EmptyQueueIsOneMicrosecond : State.reset.pending = [] ∧ State.reset.port.rxTimer = none := by decide

/-- A reception timer with 2 µs left and with 1, for each receiver that runs it. -/
theorem witness_EmptyQueueIsOneMicrosecond_receiving :
    ∀ r ∈ [Receiver.receiving .A, .receiving .B, .discarding], ∀ left ∈ [2, 1],
      let s := (receiving .idle).setPort { (receiving .idle).port with receiver := r, rxTimer := some left }
      s.pending = [] ∧ s.port.rxTimer = some left ∧ s.port.receiver = r ∧ (1 < left ∨ left ≤ 1) := by
  decide

theorem witness_PlainEncoderSteps_invalid :
    let t := State.reset.tracker
    (¬forwardLines t.lines false false ∧ ¬reverseLines t.lines false false) ∧
      (¬forwardLines t.lines true true ∧ ¬reverseLines t.lines true true) ∧
      (t.angleValid = false ∧ forwardLines t.lines true false) ∧ (t.angleValid = false ∧ reverseLines t.lines false true) := by
  decide

/-- The step onto the antipode, and the last net step count short of losing the index. -/
theorem witness_PlainEncoderSteps_valid :
    (let t := { (shaft .run 791).tracker with net := 1098 };
      t.angleValid = true ∧ forwardLines t.lines true false ∧ nextCount t ≠ boundary t ∧ ¬eventAt t (nextCount t) ∧
        (t.net + 1).natAbs < 1100 ∧ nextCount t = (boundary t + 512) % 1024) ∧
      (let t := { (shaft .run 266).tracker with net := -1098 };
      t.angleValid = true ∧ reverseLines t.lines false true ∧ prevCount t ≠ reversePoint t ∧
        (t.net - 1).natAbs < 1100) := by
  decide

/-- The boundary and the reverse point reached again, with LAST of the same direction and the antipode flag clear. -/
theorem witness_PlainEncoderSteps_uncrossed :
    (let t := { (shaft .run 279).tracker with last := .forward, antipodeFlag := false, armed := ⟨true, true, true⟩ };
      TrackerLaw t ∧ t.angleValid = true ∧ forwardLines t.lines true false ∧ nextCount t = boundary t ∧
        t.last = .forward ∧ t.antipodeFlag = false ∧ (t.net + 1).natAbs < 1100) ∧
      (let t := { (shaft .run 265).tracker with last := .reverse, antipodeFlag := false };
      TrackerLaw t ∧ t.angleValid = true ∧ reverseLines t.lines false true ∧ prevCount t = reversePoint t ∧
        t.last = .reverse ∧ t.antipodeFlag = false ∧ (t.net - 1).natAbs < 1100) := by
  decide

theorem witness_ForwardCrossingWeaves :
    let s := shaft .run 279
    weaving s = true ∧ TrackerLaw s.tracker ∧ StoreLaw s.store ∧ s.tracker.angleValid = true ∧
      forwardLines s.tracker.lines true false ∧ nextCount s.tracker = boundary s.tracker ∧
      crossingDue .forward s.tracker ∧ (s.tracker.net + 1).natAbs < 1100 := by
  decide

theorem witness_ReverseCrossingRewinds :
    let s := shaft .halt 265
    weaving s = true ∧ s.tracker.angleValid = true ∧ reverseLines s.tracker.lines false true ∧
      prevCount s.tracker = reversePoint s.tracker ∧ crossingDue .reverse s.tracker ∧
      (s.tracker.net - 1).natAbs < 1100 := by
  decide

/-- The angles of a tracker within its ranges. -/
theorem witness_PlainEncoderSteps_angles : TrackerLaw (shaft .run 0).tracker := by decide

/-- The newest entry with no rewind, the oldest with the whole history rewound, and an empty history. -/
theorem witness_ReverseCrossingRewinds_presented :
    let e : HistoryEntry := ⟨some ⟨7, 0⟩, 3, [true, false], .queue⟩
    let f : HistoryEntry := ⟨none, 0, [], .repeated⟩
    (⟨[], [e, f], 0, 0, 0⟩ : PickStore).history = [e] ++ f :: [] ∧
      (⟨[], [e, f], 1, 0, 0⟩ : PickStore).history = [] ++ e :: [f] ∧ [f].length = (⟨[], [e, f], 1, 0, 0⟩ : PickStore).rewind ∧
      State.reset.store.history = [] := by
  decide

theorem witness_CrossingOutsideWeaving :
    (let s := shaft .idle 279;
      weaving s = false ∧ ¬anyArmed s.tracker ∧ s.tracker.angleValid = true ∧
        forwardLines s.tracker.lines true false ∧ nextCount s.tracker = boundary s.tracker ∧
        crossingDue .forward s.tracker ∧ (s.tracker.net + 1).natAbs < 1100) ∧
      (let s := shaft .init 265;
      weaving s = false ∧ ¬anyArmed s.tracker ∧ s.tracker.angleValid = true ∧
        reverseLines s.tracker.lines false true ∧ prevCount s.tracker = reversePoint s.tracker ∧
        crossingDue .reverse s.tracker ∧ (s.tracker.net - 1).natAbs < 1100) := by
  decide

/-- FEEDER at 428, ARRIVAL_OPEN at 620 and ARRIVAL_CLOSE at 940, armed. -/
theorem witness_PickEventsFire :
    ∀ c ∈ [427, 619, 939],
      let t := { (shaft .run c).tracker with armed := ⟨true, true, true⟩ }
      TrackerLaw t ∧ t.angleValid = true ∧ forwardLines t.lines true false ∧ nextCount t ≠ boundary t ∧
        (t.net + 1).natAbs < 1100 ∧ eventAt t (nextCount t) := by
  decide

theorem witness_RevalidationSetsTheAngle :
    let t := State.reset.tracker
    t.angleValid = false ∧ forwardLines t.lines true false ∧ reverseLines t.lines false true ∧ t.capture = none ∧
      ({ t with capture := some 0 }).lastPass ≠ some .forward ∧
      ({ t with capture := some 0, lastPass := some .forward, reverseSeen := true }).reverseSeen = true := by
  decide

/-- A forward revalidation that is due a measurement. -/
theorem witness_RevalidationSetsTheAngle_measured :
    let t := { State.reset.tracker with timer := 30000, capture := some 0, lastPass := some .forward }
    t.angleValid = false ∧ forwardLines t.lines true false ∧ t.capture = some 0 ∧ t.lastPass = some .forward ∧
      t.reverseSeen = false ∧ (t.timer + 16777216 - 0) % 16777216 = 30000 := by
  decide

/-- Deviations 3 and 2, -3 and -2, forward; 3 and 2, -3 and -2, reverse. -/
theorem witness_IndexPassCorrectsCounter (c : Nat) (hc : c ∈ [2, 1, 1020, 1021]) :
    let s := shaft .idle c
    let f := Instr.encoderStep true false true
    let r := Instr.encoderStep false true true
    TrackerLaw s.tracker ∧ exec f s = .next (after f s) ∧ exec r s = .next (after r s) ∧
      forwardLines s.tracker.lines true false ∧ reverseLines s.tracker.lines false true ∧
      nextCount s.tracker ∈ [3, 2, 1021, 1022] ∧ prevCount s.tracker ∈ [1, 0, 1019, 1020] := by
  refine ⟨?_, rfl, rfl, ?_, ?_, ?_, ?_⟩ <;> revert c <;> decide

/-- Counts 511 and 512 forward, 510 and 511 reverse: on either side of the turn from an advance to a lag. -/
theorem witness_IndexPassCorrectsCounter_valid :
    (∀ c ∈ [510, 511], let t := (shaft .run c).tracker
      t.angleValid = true ∧ forwardLines t.lines true false ∧ nextCount t = c + 1) ∧
      ∀ c ∈ [511, 512], let t := (shaft .run c).tracker
        t.angleValid = true ∧ reverseLines t.lines false true ∧ prevCount t = c - 1 := by
  decide

/-- No capture; and intervals just outside and just inside 30,000 to 4,000,000 µs. -/
theorem witness_IndexPassMeasuresPeriod (m : Nat) (hm : m ∈ [29999, 30000, 4000000, 4000001]) :
    let s := (shaft .idle 1023).setTracker
      { (shaft .idle 1023).tracker with timer := m, capture := some 0, lastPass := some .forward }
    let f := Instr.encoderStep true false true
    TrackerLaw s.tracker ∧ forwardLines s.tracker.lines true false ∧ exec f s = .next (after f s) ∧
      s.tracker.capture = some 0 ∧ s.tracker.lastPass = some .forward ∧ s.tracker.reverseSeen = false ∧
      s.tracker.period = some 119900 ∧ (s.tracker.timer + 16777216 - 0) % 16777216 = m ∧
      (shaft .idle 1023).tracker.capture = none := by
  refine ⟨?_, ?_, rfl, ?_, ?_, ?_, ?_, ?_, ?_⟩ <;> revert m <;> decide

theorem witness_IndexLostAndCaptureExpiry :
    (let t := { (shaft .run 100).tracker with net := 1099 };
      t.angleValid = true ∧ forwardLines t.lines true false ∧ nextCount t ≠ boundary t ∧ ¬eventAt t (nextCount t)) ∧
      (let t := { (shaft .run 100).tracker with net := -1099 };
      t.angleValid = true ∧ reverseLines t.lines false true ∧ prevCount t ≠ reversePoint t) ∧
      (shaft .idle 0).tracker.angleValid = true ∧ State.reset.tracker.angleValid = false := by
  decide

/-- The index lost on the boundary, on the reverse point, and on the angle of an armed ARRIVAL_OPEN. -/
theorem witness_IndexLostAndCaptureExpiry_crossing :
    (let t := { (shaft .run 279).tracker with net := 1099 };
      t.angleValid = true ∧ forwardLines t.lines true false ∧ nextCount t = boundary t ∧ t.net = 1099) ∧
      (let t := { (shaft .run 265).tracker with net := -1099 };
      t.angleValid = true ∧ reverseLines t.lines false true ∧ prevCount t = reversePoint t ∧ t.net = -1099) ∧
      (let t := { (shaft .run 619).tracker with net := 1099, armed := ⟨false, true, false⟩ };
      t.angleValid = true ∧ forwardLines t.lines true false ∧ eventAt t (nextCount t) ∧ t.net = 1099) := by
  decide

/-- An arrival edge in an open and in a closed window, and a level that is no edge; a selected edge of inputs 1 and 7. -/
theorem witness_LoomInputEdges :
    (let s := (node .run).setWeft { (node .run).weft with owner := true };
      s.weft.levels[(0 : Fin 8)] ≠ true ∧ s.weft.owner = true ∧ weaving s = true ∧ s.weft.arrivalEdge = .rise ∧
        s.weft.window = false ∧ ({ s.weft with window := true }).window = true ∧ ¬s.weft.levels[(0 : Fin 8)] ≠ false) ∧
      ∀ n ∈ [(0 : Fin 7), 6],
        let w := { State.reset.weft with enables := Vector.replicate 7 true }
        w.levels[n.succ] ≠ true ∧ w.enables[n] = true ∧ w.edges[n] = .rise ∧ ¬w.levels[n.succ] ≠ false := by
  decide

theorem witness_StartDelimiterTakesAStore :
    let p := State.reset.port
    p.receiver = .waiting ∧ p.storeA = .free ∧
      ({ p with storeA := .held [0] }).storeA ≠ .free ∧ ({ p with storeA := .held [0] }).storeB = .free ∧
      ({ p with storeA := .held [0], storeB := .sending [0] }).storeB ≠ .free ∧
      (receiving .idle).port.receiver ≠ .waiting := by
  decide

/-- A frame of 2,049 bytes. -/
theorem witness_BadFrameIsAbandoned_long : 2048 < (symbolBytes (List.replicate 2049 (.byte 0))).length := by
  have h : ∀ n, (symbolBytes (List.replicate n (.byte 0))).length = n := by
    intro n
    induction n with
    | zero => rfl
    | succ n ih =>
      rw [List.replicate_succ]
      exact congrArg Nat.succ ih
  rw [h]
  decide

/-- WAITING, DISCARDING, and frames bad by an error symbol, by 15 bytes, by a length field, and by the CRC. -/
theorem witness_BadFrameIsAbandoned :
    let s := receiving .idle
    s.port.receiver = .receiving .A ∧ getStore s.port .A = .filling [] false false ∧
      State.reset.port.receiver = .waiting ∧ ({ s.port with receiver := .discarding }).receiver = .discarding ∧
      LineSymbol.error ∈ [LineSymbol.byte 0, .error] ∧
      (symbolBytes (List.replicate 15 (.byte 0))).length < 16 ∧
      num16 ((List.replicate 17 (0 : Byte)).getD 4 0) ((List.replicate 17 (0 : Byte)).getD 5 0) + 16 ≠ 17 ∧
      (List.replicate 16 (0 : Byte)).drop 14 ≠ halfBytes (crc16 ((List.replicate 16 (0 : Byte)).take 14)) := by
  decide +kernel

/-- The longest body of a frame. -/
theorem witness_FrameEndActsAsItsRow_layout :
    ({ kind := 2, dest := 0, tag := 0, slots := Vector.replicate 4 untouchedSlot,
       body := List.replicate 2032 0 } : Frame).body.length ≤ 2032 := by
  exact List.length_replicate.le

/-- A COMMAND row, a DESIGN row and an ENUMERATE row. -/
theorem witness_FrameEndActsAsItsRow :
    ∀ x ∈ [(Instr.clearHistory (header 0) [0], commandFrame (header 0) .clearHistory [0]),
        (.designFrame (header 0) [], bodyFrame kindDesign (header 0) []),
        (.enumerate (header 0) [3], bodyFrame kindEnumerate (header 0) [3])],
      wellFormed x.1 = true ∧ frameOf x.1 = some x.2 ∧ (receiving .idle).port.receiver = .receiving .A ∧
        getStore (receiving .idle).port .A = .filling [] false false ∧
        LineSymbol.error ∉ (frameBytes x.2).map LineSymbol.byte ∧
        symbolBytes ((frameBytes x.2).map LineSymbol.byte) = frameBytes x.2 := by
  decide +kernel

theorem witness_TimeOutAndTransmission :
    let p := State.reset.port
    (receiving .idle).port.receiver = .receiving .A ∧ ({ p with receiver := .receiving .B }).receiver = .receiving .B ∧
      ({ p with receiver := .discarding }).receiver = .discarding ∧ p.receiver = .waiting ∧
      (let q := { p with storeA := .held [0], heldOrder := [.A] };
        q.storeA = .held [0] ∧ q.heldOrder = [.A] ∧ isSending q.storeB = false) ∧
      (let q := { p with storeB := .held [0], heldOrder := [.B] };
        q.storeB = .held [0] ∧ q.heldOrder = [.B] ∧ isSending q.storeA = false) ∧
      p.heldOrder = [] ∧ isSending (.sending [0]) = true := by
  decide

/-- Nothing SENDING, store A SENDING, store B SENDING alone. -/
theorem witness_TimeOutAndTransmission_ringOut :
    let p := State.reset.port
    (isSending p.storeA = false ∧ isSending p.storeB = false) ∧
      ({ p with storeA := .sending [0] }).storeA = .sending [0] ∧
      (isSending ({ p with storeB := .sending [0] }).storeA = false ∧
        ({ p with storeB := .sending [0] }).storeB = .sending [0]) := by
  decide

/-- Unnumbered, another node's, broadcast and addressed; in INIT a command that is no query; a broadcast query. -/
theorem witness_CommandsActByDestination :
    commandOf (.run (header 0) []) = some (header 0, .run, []) ∧
      commandOf (.queryStatus (header 0xFF) 8 []) = some (header 0xFF, .query .status 8, []) ∧
      State.reset.port.number = none ∧ (node .init).port.number = some 0 ∧
      ((header 3).dest.toNat ≠ (0 : Fin 4).val ∧ (header 3).dest ≠ 0xFF#8) ∧ (header 0xFF).dest = 0xFF#8 ∧
      (header 0).dest.toNat = (0 : Fin 4).val ∧ reaches 0 (header 0) (node .init) ∧ reaches 0 (header 0xFF) (node .init) ∧
      (isQuery (.query .status 8) || isLoad (.query .status 8)) = true ∧ (node .init).control.node = .init ∧
      (isQuery .run || isReset .run) = false ∧ ¬((header 0).dest = 0xFF#8 ∧ isLoad .run = true) := by
  decide

/-- An empty and a full queue. -/
theorem witness_SlotLayout :
    State.reset.store.queue.length ≤ 8 ∧
      (List.replicate 8 (⟨⟨0, 0⟩, 1, .ready, Vector.replicate 16 none, false, []⟩ : LiftRecord)).length ≤ 8 := by
  decide

/-- A RESPONSE, and COMMANDs that name no command (code 0, an empty body, an argument missing). -/
theorem witness_OtherGoodFramesChangeNothing :
    let f : Frame := { kind := 3, dest := 0, tag := 0, slots := Vector.replicate 4 untouchedSlot, body := [] }
    f.body.length ≤ 2032 ∧ (receiving .idle).port.receiver = .receiving .A ∧
      getStore (receiving .idle).port .A = .filling [] false false ∧
      LineSymbol.error ∉ (frameBytes f).map LineSymbol.byte ∧
      symbolBytes ((frameBytes f).map LineSymbol.byte) = frameBytes f ∧
      (f.kind ≠ 0x01#8 ∧ f.kind ≠ 0x02#8 ∧ f.kind ≠ 0x04#8) ∧ ({ f with kind := 2 }).kind = 0x02#8 ∧
      decodeCommand [] = none ∧ decodeCommand [0] = none ∧ decodeCommand [0x0D, 0] = none ∧
      (receiving .idle).port.number = some 0 ∧ f.dest.toNat = (0 : Fin 4).val ∧ ({ f with dest := 0xFF }).dest = 0xFF#8 := by
  decide +kernel

/-- CONFIGURE of parameters 0 and 0Eh, QUERY of subjects 0 and 7, each addressed and broadcast; and a COMMAND for another node
and at an unnumbered one. -/
theorem witness_OtherGoodFramesChangeNothing_unknown :
    (∀ body ∈ [[(0x01 : Byte), 0, 0, 0, 0], [0x01, 0x0E, 1, 0, 0, 9], [0x0E, 0, 0, 8], [0x0E, 7, 0, 8, 0]],
      ∀ dest ∈ [(0 : Byte), 0xFF],
        let f : Frame := { kind := 2, dest := dest, tag := 0, slots := Vector.replicate 4 untouchedSlot, body := body }
        f.body.length ≤ 2032 ∧ LineSymbol.error ∉ (frameBytes f).map LineSymbol.byte ∧
          symbolBytes ((frameBytes f).map LineSymbol.byte) = frameBytes f) ∧
      [(0x01 : Byte), 0x0E, 1, 0, 0, 9] = [0x01#8, 0x0E#8, 1, 0, 0] ++ [9] ∧ 0x0D < (0x0E : Byte).toNat ∧
      [(0x0E : Byte), 7, 0, 8, 0] = [0x0E#8, 7, 0, 8] ++ [0] ∧ 0x06 < (7 : Byte).toNat ∧
      (receiving .idle).port.number = some 0 ∧ (header 0).dest.toNat = (0 : Fin 4).val ∧
      ((header 3).dest.toNat ≠ (0 : Fin 4).val ∧ (header 3).dest ≠ 0xFF#8) ∧ State.reset.port.number = none := by
  decide +kernel

/-- A DESIGN body of the length its run count asks for, one that is a byte longer, and an empty one. -/
theorem witness_DesignRowAccepted_body :
    (designBody 0 0 1 8).length = 6 + 3 * 1 ∧ (designBody 0 0 1 8 ++ [0]).length ≠ 6 + 3 * 1 ∧
      (designBody 0 0 1 8)[4]? = some 0 ∧ (designBody 0 0 1 8)[5]? = some 1 ∧ ([] : List Byte).length ≠ 6 + 3 * 0 := by
  decide

/-- One record and eight records, with hooks installed and with none. -/
theorem witness_DesignRowAccepted :
    ∀ k ∈ [1, 8], ∀ s ∈ [tabled .run, (tabled .run).setSelector { State.reset.selector with sizing := .done }],
      let row : DesignRow := ⟨0, 0, k, [⟨0, 8⟩]⟩
      s.port.number = some 0 ∧ s.control.node ≠ .init ∧ s.load = none ∧
        decodeDesign (designBody 0 0 k 8) = some row ∧ 1 ≤ row.count ∧ row.count ≤ 8 ∧ 1 ≤ row.runs.length ∧
        row.runs.length ≤ 512 ∧ (∀ r ∈ row.runs, r.code ≤ 15 ∧ 1 ≤ r.length ∧ r.length ≤ 16384) ∧
        (row.runs.map Run.length).sum = s.tables.width ∧ s.tables.width ≠ 0 ∧
        s.admission.lastAccepted ≠ some row.pick ∧ s.admission.expected = row.pick ∧ tieReady s.tables = true ∧
        (∀ r ∈ row.runs, codeReady s.tables r.code = true) ∧ feederAt s.tables row.colour = some 3 ∧
        s.store.queue.length + row.count ≤ 8 ∧ s.engine.backlog.length < 2 ∧ WorkLaw s := by
  decide +kernel

/-- A state for each refusal, in the order of the checks. -/
theorem witness_DesignRowRefused :
    let s := tabled .run
    let shaped := fun (row : DesignRow) =>
      decide
        (1 ≤ row.count ∧ row.count ≤ 8 ∧ 1 ≤ row.runs.length ∧ row.runs.length ≤ 512 ∧
          (∀ r ∈ row.runs, r.code ≤ 15 ∧ 1 ≤ r.length ∧ r.length ≤ 16384) ∧ s.tables.width ≠ 0 ∧
          (row.runs.map Run.length).sum = s.tables.width)
    let row : DesignRow := ⟨0, 0, 1, [⟨0, 8⟩]⟩
    State.reset.port.number = none ∧ s.port.number = some 0 ∧ (tabled .init).control.node = .init ∧
      s.control.node ≠ .init ∧ (s.setLoad (some ⟨.tie, 0, 0, 0, 0⟩)).load ≠ none ∧ s.load = none ∧
      decodeDesign [] = none ∧ decodeDesign (designBody 0 0 1 8 ++ [0]) = none ∧
      decodeDesign (designBody 0 0 1 8) = some row ∧ shaped row ∧ ¬shaped { row with count := 0 } ∧
      ¬shaped { row with count := 9 } ∧ ¬shaped { row with runs := [⟨0, 7⟩] } ∧ ¬shaped { row with runs := [⟨16, 8⟩] } ∧
      (s.setAdmission ⟨1, some 0⟩).admission.lastAccepted = some row.pick ∧ s.admission.lastAccepted ≠ some row.pick ∧
      row.pick ≠ (s.setAdmission ⟨7, none⟩).admission.expected ∧ row.pick = s.admission.expected ∧
      tieReady { s.tables with tieValid := false } = false ∧ tieReady s.tables = true ∧
      codeReady s.tables 2 = false ∧ codeReady s.tables 0 = true ∧ feederAt s.tables 1 = none ∧
      feederAt s.tables 8 = none ∧ feederAt s.tables 0 ≠ none ∧
      (let q := List.replicate 8 (⟨⟨0, 0⟩, 1, .ready, Vector.replicate 16 none, false, []⟩ : LiftRecord);
        8 < q.length + row.count ∧ q.length ≤ 8) := by
  decide +kernel

/-- Counters 0, 3 and 4; a numbered node in RUN and HALT. -/
theorem witness_EnumerateNumbersNode :
    weaving (node .init) = false ∧ weaving (node .idle) = false ∧ (0 : Byte).toNat = (0 : Fin 4).val ∧
      (3 : Byte).toNat = (3 : Fin 4).val ∧ 4 ≤ (4 : Byte).toNat ∧ weaving (node .run) = true ∧
      weaving (node .halt) = true ∧ (node .run).port.number = some 0 := by
  decide

/-- The commands that reach node 0 out of INIT, addressed and broadcast, in each node state: for IdleOnlyParameters,
TimingParameters, RunAndResumeEnterRun, ClearHistoryAndFaultMap and the like. -/
theorem witness_reaches :
    ∀ n ∈ [NodeState.idle, .run, .halt], ∀ d ∈ [(0 : Byte), 0xFF],
      reaches 0 (header d) (node n) ∧ (node n).control.node ≠ .init ∧ (node n).control.node = n ∧
        (n ≠ .idle → weaving (node n) = true) := by
  decide

theorem witness_IdleOnlyParameters :
    reaches 0 (header 0) (node .run) ∧ (node .run).control.node ≠ .init ∧ (node .run).control.node ≠ .idle ∧
      (node .idle).control.node = .idle ∧ (16384#16).toNat ≤ 16384 ∧ ¬(16385#16).toNat ≤ 16384 ∧
      (736#16).toNat ≤ 736 ∧ 32 ≤ (32#16).toNat := by
  decide

theorem witness_TimingParameters :
    reaches 0 (header 0xFF) (node .halt) ∧ (node .halt).control.node ≠ .init ∧ (10000#16).toNat ≤ 10000 ∧
      ¬(10001#16).toNat ≤ 10000 ∧ (3#16).toNat < 4 ∧ 64 < (65#16).toNat ∧ (19#16).toNat < 20 ∧ 500 < (501#16).toNat := by
  decide

/-- Owner 0, 1 and 2; edge 2 and 3; input 1 and 7; index 0 and 8. -/
theorem witness_WeftAndInputParameters :
    reaches 0 (header 0) (node .idle) ∧ (node .idle).control.node ≠ .init ∧ (1#16).toNat = 1 ∧ (0#16).toNat = 0 ∧
      (node .idle).weft.owner = false ∧ ({ (node .idle).weft with owner := true }).owner = true ∧ 2 ≤ (2#16).toNat ∧
      (2#16).toNat = 2 ∧ 3 ≤ (3#16).toNat ∧ (1 : Byte).toNat = (0 : Fin 7).val + 1 ∧
      (7 : Byte).toNat = (6 : Fin 7).val + 1 ∧ (0 : Byte).toNat = 0 ∧ 8 ≤ (8 : Byte).toNat := by
  decide

/-- Kind 25 and 26; the fixed kinds; levels 2 and 3. -/
theorem witness_ActionLevels :
    reaches 0 (header 0) (node .run) ∧ (node .run).control.node ≠ .init ∧ 26 ≤ (26 : Byte).toNat ∧
      (25 : Byte).toNat = (25 : Fin 26).val ∧ (25 : Fin 26) ∉ [(0 : Fin 26), 11, 18, 19] ∧
      (19 : Fin 26) ∈ [(0 : Fin 26), 11, 18, 19] ∧ (19 : Byte).toNat = (19 : Fin 26).val ∧ (2#16).toNat = 2 ∧
      3 ≤ (3#16).toNat := by
  decide

/-- An open transaction; ranges at and past the end of each table; a busy engine; a queue that is not empty. -/
theorem witness_LoadOpens :
    let inRange := fun (table first count : Byte) => inTable table first count (decide (first.toNat = 0 ∧ count.toNat ≤ 64))
    addressed 0 (header 0) (node .idle) ∧ (node .idle).control.node ≠ .init ∧
      ((node .idle).setLoad (some ⟨.tie, 0, 0, 0, 0⟩)).load ≠ none ∧ (node .idle).load = none ∧
      inRange 1 15 1 ∧ inRange 2 0 16 ∧ inRange 3 0 64 ∧ inRange 3 0 0 ∧ inRange 4 7 1 ∧ ¬inRange 1 15 2 ∧
      ¬inRange 2 0 0 ∧ ¬inRange 3 1 1 ∧ ¬inRange 3 0 65 ∧ ¬inRange 4 8 1 ∧ ¬inRange 5 0 1 ∧
      (node .idle).engine.backlog = [] ∧ (node .idle).store.queue = [] ∧
      ({ (node .idle).engine with backlog := [⟨0, 1, 8, [], 0⟩] }).backlog ≠ [] ∧
      ({ (node .idle).store with queue := [⟨⟨0, 0⟩, 1, .ready, Vector.replicate 16 none, false, []⟩] }).queue ≠ [] := by
  decide

/-- No transaction; another sequence number; too many entries; entries of each table. -/
theorem witness_LoadDataWrites :
    let ld : Load := ⟨.weft, 0, 8, 8, 0⟩
    addressed 0 (header 0) ((node .idle).setLoad (some ld)) ∧
      ((node .idle).setLoad (some ld)).control.node ≠ .init ∧ (node .idle).load = none ∧
      ((node .idle).setLoad (some ld)).load = some ld ∧ (1 : Byte).toNat ≠ ld.sequence ∧ (0 : Byte).toNat = ld.sequence ∧
      8 < (9 : Byte).toNat ∧ decodeEntries .weft 2 [1] = none ∧ 1 ≤ (8 : Byte).toNat ∧ (8 : Byte).toNat ≤ ld.remaining ∧
      decodeEntries .weft 8 [1, 2, 3, 4, 5, 6, 7, 8] = some (.feeders [1, 2, 3, 4, 5, 6, 7, 8]) ∧
      decodeEntries .codemap 1 [1, 0, 2, 3] = some (.codes [⟨1, 0, 2, 3⟩]) ∧
      decodeEntries .tie 1 [0, 4, 0, 8, 1, 0, 7, 5, 2, 0, 0]
        = some (.segments [⟨4, 8, .desc, 7, 5, .void, none⟩]) ∧
      decodeEntries .weave 1 [2, 1, 0, 0, 2, 0x40] = some (.weaves [⟨2, 1, 0, [false, true]⟩]) := by
  decide

/-- Entries remaining, a failing check, a passing one; a range of slots with one that is good and one that is not. -/
theorem witness_LoadsEnd :
    let s := node .idle
    let one : Geometry := ⟨1, 1, 0, [true]⟩
    let t := { s.tables with weaves := (s.tables.weaves.set 14 (.invalid (some one))).set 15 (.invalid none) }
    let ld : Load := ⟨.weave, 14, 2, 0, 2⟩
    addressed 0 (header 0) s ∧ s.control.node ≠ .init ∧ s.load = none ∧ (s.setLoad (some ld)).load = some ld ∧
      ({ ld with remaining := 1 }).remaining ≠ 0 ∧ ld.remaining = 0 ∧ checkLoad ld t = .fail .range 15 ∧
      checkLoad { ld with count := 1 } t = .pass ∧ ld.table = .weave ∧ ld.first + ld.count ≤ 16 ∧
      t.weaves[(14 : Fin 16)] = .invalid (some one) ∧ t.weaves[(15 : Fin 16)] = .invalid none ∧
      one.start < one.h ∧ one.cells.length = one.w * one.h := by
  decide

/-- Loads of CODEMAP, WEFT and TIE whose entries pass, fail their ranges, and name a slot that is not LOADED. -/
theorem witness_CodeWeftAndTieCloses :
    let s := tabled .idle
    let map := fun f : Option CodeFields => { s.tables with codes := s.tables.codes.set 15 (.unmapped f) }
    let weft := fun f : Option Nat => { s.tables with wefts := s.tables.wefts.set 7 (.unmapped f) }
    let tie := fun x : List Segment => { s.tables with tie := x }
    let edge : Segment := ⟨0, 16, .asc, 0, 0, .selvedge, some (0, 1)⟩
    let codes : Load := ⟨.codemap, 15, 1, 0, 1⟩
    let wefts : Load := ⟨.weft, 7, 1, 0, 1⟩
    s.tables.weaves[(0 : Fin 16)] = .loaded satin ∧ s.tables.weaves[(5 : Fin 16)] = .empty ∧
      checkLoad codes (map (some ⟨0, 1, 31, 31⟩)) = .pass ∧ checkLoad codes (map none) = .fail .range 15 ∧
      checkLoad codes (map (some ⟨0, 0, 32, 0⟩)) = .fail .range 15 ∧
      checkLoad codes (map (some ⟨5, 0, 0, 0⟩)) = .fail .notFound 15 ∧
      checkLoad wefts (weft (some 8)) = .pass ∧ checkLoad wefts (weft (some 9)) = .fail .range 7 ∧
      checkLoad ⟨.tie, 0, 0, 0, 0⟩ (tie []) = .pass ∧
      checkLoad ⟨.tie, 0, 2, 0, 1⟩ (tie [edge, { edge with h0 := 16 }]) = .pass ∧
      checkLoad ⟨.tie, 0, 2, 0, 1⟩ (tie [edge, { edge with h0 := 15 }]) = .fail .range 1 ∧
      checkLoad ⟨.tie, 0, 2, 0, 1⟩ (tie [edge, { edge with h0 := 16, selvedge := some (5, 0) }]) = .fail .notFound 1 := by
  decide +kernel

/-- RUN from IDLE with all it needs, and without a valid angle; RESUME from HALT with no flag set, and from RUN. -/
theorem witness_RunAndResumeEnterRun :
    let s := (tabled .idle).setTracker (shaft .idle 0).tracker
    (reaches 0 (header 0) s ∧ s.control.node ≠ .init ∧ s.control.node = .idle ∧ s.tracker.angleValid = true ∧
        0 < s.tables.width ∧ s.selector.chains[(0 : Fin 6)] ≠ .absent ∧ (tabled .idle).tracker.angleValid ≠ true) ∧
      reaches 0 (header 0) (node .halt) ∧ (node .halt).control.node ≠ .init ∧ (node .halt).control.node = .halt ∧
      (∀ k : Fin 26, (node .halt).control.events[k].flag = true → (node .halt).control.events[k].level ≠ .stop) ∧
      (node .run).control.node ≠ .halt := by
  decide

/-- No shift in flight with and without a chain, a PATTERN one, a ZERO one; and IDLE itself. -/
theorem witness_IdleEntersIdle :
    let x := (node .run).selector
    let p : Shift := ⟨.pattern, none, []⟩
    reaches 0 (header 0) (node .run) ∧ (node .run).control.node ≠ .init ∧ (node .idle).control.node = .idle ∧
      weaving (node .run) = true ∧ x.shift = none ∧ x.chains[(0 : Fin 6)] ≠ .absent ∧
      (∀ c : Fin 6, State.reset.selector.chains[c] = .absent) ∧ ({ x with shift := some p }).shift = some p ∧
      p.kind = .pattern ∧ ({ p with kind := .zero }).kind = .zero := by
  decide

theorem witness_DiscardQueueEmpties :
    reaches 0 (header 0) (tabled .idle) ∧ (tabled .idle).control.node ≠ .init ∧
      (tabled .idle).store.queue.length ≤ 8 ∧ (node .run).control.node = .run ∧ (tabled .idle).control.node ≠ .run ∧
      CounterRange (tabled .idle) := by
  have h : ∀ i : Fin 16, ∀ g ∈ (loadedGeometry (tabled .idle).tables.weaves[i]).toList, i = 0 ∧ g = satin := by
    decide +kernel
  refine ⟨by decide, by decide, by decide, by decide, by decide, fun i g hg => ?_⟩
  obtain ⟨rfl, rfl⟩ := h i g (by simpa using hg)
  decide +kernel

theorem witness_ClearHistoryAndFaultMap :
    reaches 0 (header 0) (node .halt) ∧ (node .halt).control.node ≠ .init ∧ (node .idle).control.node = .idle ∧
      (node .halt).control.node ≠ .idle ∧ (node .run).control.node = .run ∧ (node .halt).control.node ≠ .run ∧
      (node .halt).engine.backlog = [] := by
  decide

/-- Kinds 25 and 26. -/
theorem witness_ClearEventsClears :
    reaches 0 (header 0) (node .halt) ∧ (node .halt).control.node ≠ .init ∧ (∃ b ∈ [(0 : Byte), 26], 25 < b.toNat) ∧
      ∀ b ∈ [(2 : Byte), 25], b.toNat ≤ 25 := by
  decide

/-- Chain 6, module 128, a module past the end, an ACTIVE one and a LATCHED one. -/
theorem witness_ReleaseModuleReleases :
    let s := (node .halt).setHealth
      { (node .halt).health with modules := (node .halt).health.modules.set 0 [freshModule, ⟨.latched, 3, 0⟩] }
    reaches 0 (header 0) s ∧ s.control.node ≠ .init ∧ 6 ≤ (6 : Byte).toNat ∧ 128 ≤ (128 : Byte).toNat ∧
      (0 : Byte).toNat = (0 : Fin 6).val ∧ (127 : Byte).toNat ≤ 127 ∧
      s.health.modules[(0 : Fin 6)].length = moduleCount s.selector.chains[(0 : Fin 6)] ∧
      moduleCount s.selector.chains[(0 : Fin 6)] ≤ (2 : Byte).toNat ∧
      s.health.modules[(0 : Fin 6)][(0 : Byte).toNat]? = some freshModule ∧ freshModule.state ≠ .latched ∧
      s.health.modules[(0 : Fin 6)][(1 : Byte).toNat]? = some ⟨.latched, 3, 0⟩ := by
  decide

/-- Addressed queries, in INIT too; ranges at and past the end of each table. -/
theorem witness_QueriesChangeNothing :
    let inRange := fun (table first count : Byte) =>
      inTable table first count (decide (first.toNat ≤ 63 ∧ 1 ≤ count.toNat ∧ first.toNat + count.toNat ≤ 64))
    addressed 0 (header 0) (node .init) ∧ tableOfCode 3 = some .tie ∧ inRange 1 0 16 ∧ inRange 2 15 1 ∧
      inRange 3 63 1 ∧ inRange 4 7 1 ∧ ¬inRange 1 15 2 ∧ ¬inRange 3 64 1 ∧ ¬inRange 3 0 0 ∧ ¬inRange 5 0 1 := by
  decide

theorem witness_QueryLayouts :
    TrackerLaw (shaft .run 1023).tracker ∧ StoreLaw (node .run).store ∧ (node .run).store.queue.length ≤ 8 ∧
      (node .run).weft.outside ≤ 65535 ∧ (node .run).load = none ∧
      ∀ k : Fin 26, (node .run).control.events[k].count ≤ 65535 := by
  decide

theorem witness_ResetResets : reaches 0 (header 0) (node .run) ∧ reaches 0 (header 0xFF) (node .init) := by decide

/-- The flush, the marker passes with two chains left and with one left. -/
theorem witness_SizingEnds :
    let v : Vector (Option ChainSize) 6 := Vector.replicate 6 none
    let last : Vector (Option ChainSize) 6 := (Vector.replicate 6 (some .absent)).set 5 none
    State.reset.selector.sizing = .flush ∧ (node .idle).selector.sizing ≠ .flush ∧
      ({ State.reset.selector with sizing := .marker v }).sizing = .marker v ∧ v[(0 : Fin 6)] = none ∧
      v[(1 : Fin 6)] = none ∧ last[(5 : Fin 6)] = none ∧ (∀ d : Fin 6, d ≠ 5 → last[d] ≠ none) ∧
      (2047 : Fin 4096).val + 1 ≤ 2048 ∧ 2048 < (2048 : Fin 4096).val + 1 := by
  decide

/-- A chain whose marker pass has ended. -/
theorem witness_SizingEnds_ended :
    let v : Vector (Option ChainSize) 6 := (Vector.replicate 6 none).set 2 (some .absent)
    ({ State.reset.selector with sizing := .marker v }).sizing = .marker v ∧ v[(2 : Fin 6)] ≠ none := by
  decide

/-- A record under work behind a READY one. -/
theorem witness_RecordTurnsReady :
    let x : LiftRecord := ⟨⟨0, 0⟩, 1, .ready, Vector.replicate 16 none, false, []⟩
    let r : LiftRecord := { x with id := ⟨0, 1⟩, state := .expanding }
    let s := ((node .run).setStore { (node .run).store with queue := [x, r] }).setEngine
      { (node .run).engine with backlog := [⟨0, 2, 8, [⟨0, 8⟩], 1⟩] }
    (node .run).engine.backlog = [] ∧ s.store.queue = [x] ++ r :: [] ∧ (∀ y ∈ [x], y.state = .ready) ∧
      r.state = .expanding ∧ s.engine.backlog = ⟨0, 2, 8, [⟨0, 8⟩], 1⟩ :: [] := by
  decide

/-- A hook outside every segment, one in a FIGURE, one in a SELVEDGE and one in a VOID segment. -/
theorem witness_HookLiftByTables :
    let t := { (tabled .idle).tables with tie := [⟨0, 8, .asc, 0, 0, .figure, none⟩, ⟨8, 2, .asc, 0, 0, .selvedge, some (0, 1)⟩,
      ⟨10, 2, .asc, 0, 0, .void, none⟩] }
    segmentOf t.tie 12 = none ∧ segmentOf t.tie 7 = some ⟨0, 8, .asc, 0, 0, .figure, none⟩ ∧
      segmentOf t.tie 9 = some ⟨8, 2, .asc, 0, 0, .selvedge, some (0, 1)⟩ ∧
      segmentOf t.tie 11 = some ⟨10, 2, .asc, 0, 0, .void, none⟩ ∧ t.codes[(0 : Fin 16)] = .mapped ⟨0, 0, 0, 0⟩ ∧
      codeReady State.reset.tables 0 = false ∧ t.weaves[(0 : Fin 16)] = .loaded satin ∧
      geometryPasses satin = true ∧ runCode [⟨0, 8⟩] 7 = some 0 ∧
      (let row : BacklogRow := ⟨0, 1, 8, [⟨0, 8⟩], 0⟩
      (row.runs.map Run.length).sum = row.width ∧ outsideDesign t row 7 = false ∧
        outsideDesign { t with tie := [⟨0, 9, .asc, 0, 0, .figure, none⟩] } row 8 = true ∧
        outsideDesign { t with tie := [⟨0, 9, .desc, 7, 0, .figure, none⟩] } row 8 = true) := by
  decide

theorem witness_ShiftEndLatches :
    let x := (node .run).selector
    let p : Shift := ⟨.pattern, none, List.replicate 32 true⟩
    x.shift = none ∧ ({ x with shift := some p }).shift = some p ∧ x.chains[(0 : Fin 6)] ≠ .absent ∧
      ModuleLaw (node .run) ∧ x.sizing = .done ∧ x.chains[(1 : Fin 6)] = .absent ∧ x.chains[(0 : Fin 6)] = .present 2 ∧
      p.values.length = 16 * (x.chains.toList.map moduleCount).sum := by
  decide

/-- Each state of a module, beside one in service and beside one that is out of it, and words without a taken finding. -/
theorem witness_StatusWordActsOnModule :
    (∀ r ∈ [freshModule, ⟨.active, 2, 15⟩, ⟨.resting 1000, 1, 0⟩, ⟨.latched, 3, 0⟩, ⟨.lost, 1, 0⟩],
        ∀ o ∈ [freshModule, ⟨.lost, 0, 0⟩],
        let m := (node .run).health.modules.set 0 [r, o]
        m[(0 : Fin 6)][0]? = some r ∧ m[(0 : Fin 6)][1]? = some o ∧ m[(0 : Fin 6)].length = 2) ∧
      isFailed freshModule = false ∧ isFailed ⟨.lost, 0, 0⟩ = true ∧ missingWord.present = false ∧
      ∀ j : Fin 16, findingEntry (node .run).selector.latch (firstHook (node .run) 0 0 + j) missingWord.magnets[j] = none := by
  decide

/-- A word with a finding that is taken, beside a module in service and beside one that is out of it: with 15 hooks listed the
finding puts the module, and in the second case its chain, out of service. -/
theorem witness_StatusWordActsOnModule_finding :
    let latch : Shift := ⟨.pattern, some ⟨5, 0⟩, List.replicate 32 true⟩
    let w : StatusWord := ⟨true, false, (Vector.replicate 16 .ok).set 15 .opened⟩
    let most := (List.range 15).map fun j => (⟨j, .opened, ⟨4, 0⟩⟩ : FaultEntry)
    w.present = true ∧ findingEntry latch (firstHook (node .run) 0 0 + 15) w.magnets[(15 : Fin 16)] ≠ none ∧
      ∀ o ∈ [freshModule, ⟨.lost, 0, 0⟩],
        let s := (node .run).setHealth
          { (node .run).health with faultMap := most, modules := (node .run).health.modules.set 0 [freshModule, o] }
        let u := takeFinding 0 0 ⟨15, .opened, ⟨5, 0⟩⟩ s
        s.health.modules[(0 : Fin 6)][0]? = some freshModule ∧
          (s.health.modules[(0 : Fin 6)].all isFailed = false) ∧
          (u.health.modules[(0 : Fin 6)].all isFailed = isFailed o) := by
  decide +kernel

/-- A finding that is taken: with room in the map, completing its module or not, and with the map full. -/
theorem witness_FindingsFillTheMap :
    let e : FaultEntry := ⟨31, .opened, ⟨5, 0⟩⟩
    let latch : Shift := ⟨.pattern, some ⟨5, 0⟩, List.replicate 32 true⟩
    let most := (List.range 15).map fun j => (⟨16 + j, .opened, ⟨4, 0⟩⟩ : FaultEntry)
    findingEntry latch 31 .opened = some e ∧ FaultMapLaw (node .run) ∧
      e.hook ∉ (node .run).health.faultMap.map FaultEntry.hook ∧ (node .run).health.faultMap.length < 64 ∧
      (node .run).health.modules[(0 : Fin 6)][1]? = some freshModule ∧ e.hook = firstHook (node .run) 0 1 + 15 ∧
      FaultMapLaw ((node .run).setHealth { (node .run).health with faultMap := most }) ∧
      (∀ j < 16, firstHook (node .run) 0 1 + j = e.hook ∨ firstHook (node .run) 0 1 + j ∈ most.map FaultEntry.hook) ∧
      (let full := (List.range 64).map fun h => (⟨h, .opened, ⟨5, 0⟩⟩ : FaultEntry);
        let s := ((node .run).setHealth { (node .run).health with faultMap := full }).setSelector
          { (node .run).selector with chains := (node .run).selector.chains.set 0 (.present 5) }
        FaultMapLaw s ∧ firstHook s 0 4 = 64 ∧ 64 ∉ full.map FaultEntry.hook ∧ full.length = 64 ∧ 31 ∈ full.map FaultEntry.hook) := by
  decide +kernel

theorem witness_RestTimerExpires :
    let m := (node .run).health.modules.set 0 [⟨.resting 1, 1, 0⟩, freshModule]
    m[(0 : Fin 6)][0]? = some ⟨.resting 1, 1, 0⟩ ∧ m[(0 : Fin 6)][1]? = some freshModule ∧
      freshModule.state = .active ∧ m[(0 : Fin 6)][2]? = none := by
  decide

/-- RECORD in RUN, NOTIFY in RUN, STOP in RUN and STOP in HALT. -/
theorem witness_RaiseTakenWhole :
    let level := fun k => (node .run).control.events[kindNumber k].level
    level .columnRange = .record ∧ level .slip = .notify ∧ level .starved = .stop ∧
      (node .run).control.node = .run ∧ (node .halt).control.node ≠ .run := by
  decide

/-- Node 0 in RUN with a READY record, an EXPANDING one and its row in hand. -/
def atWork : State :=
  let x : LiftRecord := ⟨⟨0, 0⟩, 1, .ready, Vector.replicate 16 none, false, []⟩
  (((shaft .run 100).setStore
        { (shaft .run 100).store with queue := [x, { x with id := ⟨0, 1⟩, state := .expanding }] }).setEngine
      { (shaft .run 100).engine with backlog := [⟨0, 2, 8, [⟨0, 8⟩], 1⟩] }).setAdmission
    ⟨1, some 0⟩

/-- The premises of StoreLawKept, QueueLawKept, WorkAndInitLawKept, HealthLawKept, ShiftLawKept and TrackerAndWeftLawKept,
met together in a state at work. -/
theorem witness_laws_kept :
    (StoreLaw atWork.store ∧ QueueLaw atWork ∧ WorkLaw atWork) ∧ (FaultMapLaw atWork ∧ ModuleLaw atWork) ∧
      (ShiftLaw atWork.selector ∧ TrackerLaw atWork.tracker) ∧ (WeftLaw atWork ∧ InputLaw atWork.weft) ∧
      EventLaw atWork.control ∧ InitLaw atWork ∧ step atWork = .next (tick atWork) := by
  refine ⟨⟨?_, ?_, ?_⟩, ⟨?_, ?_⟩, ⟨?_, ?_⟩, ⟨?_, ?_⟩, ?_, ?_, rfl⟩ <;> decide +kernel

/-- The ring port's laws, in a state that is receiving. -/
theorem witness_PortLawKept :
    PortLaw (receiving .idle).port ∧ NumberLaw (receiving .idle) ∧
      step (receiving .idle) = .next (tick (receiving .idle)) := by
  refine ⟨⟨?_, ?_, ?_, ?_, ?_, ?_⟩, ?_, rfl⟩
  · intro i; cases i <;> decide
  · intro i; cases i <;> decide
  · decide
  · decide
  · intro i; cases i <;> decide
  · decide
  · decide

/-- RUN entered from IDLE and from HALT, HALT from RUN, and IDLE from INIT. -/
theorem witness_EventLawAndNodeMoves :
    (after (.run (header 0) []) ((tabled .idle).setTracker (shaft .idle 0).tracker)).control.node = .run ∧
      (after (.resume (header 0) []) (node .halt)).control.node = .run ∧
      (after (.encoderStep true false false) (shaft .run 279)).control.node = .halt ∧
      (after (.markerPassEnd 5 none)
          (State.reset.setSelector
            { State.reset.selector with
              sizing := .marker ((Vector.replicate 6 (some .absent)).set 5 none) })).control.node = .idle := by
  decide

/-- The row-counter law with slot 0 LOADED and one record in the queue: snapshot 7, counter 0, of 8 rows. -/
theorem witness_RowCounterLawKept :
    RowCounterLaw
      ((tabled .run).setStore
        { (tabled .run).store with
          queue := [⟨⟨0, 0⟩, 1, .ready, (Vector.replicate 16 none).set 0 (some 7), false, []⟩] }) := by
  have h : ∀ i : Fin 16, ∀ g ∈ (loadedGeometry (tabled .run).tables.weaves[i]).toList, i = 0 ∧ g = satin := by
    decide +kernel
  refine ⟨by decide, fun i g hg => ?_, fun i g hg => ?_⟩
  · obtain ⟨rfl, rfl⟩ := h i g (Option.mem_toList.mpr hg)
    decide +kernel
  · obtain ⟨rfl, rfl⟩ := h i g (Option.mem_toList.mpr hg)
    decide +kernel

/-- Entries of each table at the ends of their ranges. -/
theorem witness_LoadEntriesDecode :
    (∀ f ∈ [(⟨255, 255, 255, 255⟩ : CodeFields)], f.slot < 256 ∧ f.invert < 256 ∧ f.dx < 256 ∧ f.dy < 256) ∧
      (∀ g ∈ [(⟨12287, 1, .desc, 16383, 31, .selvedge, some (15, 1)⟩ : Segment), ⟨0, 12288, .asc, 0, 0, .void, none⟩],
        segmentInRange g = true ∧ (g.kind ≠ .selvedge → g.selvedge = none)) ∧
      geometryPasses ⟨1, 1, 0, [true]⟩ = true ∧ ∀ f ∈ [0, 255], f < 256 := by
  decide

end Sys2Proof.Tests
end

/-! PROOFS. The lift of one hook (R26-R31): a lemma for each function of Pick Expansion that says what it answers, and from
them the statement on hook lifts. -/

namespace Sys2Proof.Proofs.PickExpansion

open Sys2Proof Sys2Proof.Machine

/-! ## The segment that covers a hook (R26) -/

theorem segmentOf_eq_none_iff {tie : List Segment} {h : Nat} :
    segmentOf tie h = none ↔ ∀ g ∈ tie, h < g.h0 ∨ g.h0 + g.n ≤ h := by
  simp only [segmentOf, List.find?_eq_none, decide_eq_true_eq]
  exact forall₂_congr fun g _ => by omega

theorem mem_and_covers_of_segmentOf {tie : List Segment} {h : Nat} {g : Segment} (hg : segmentOf tie h = some g) :
    g ∈ tie ∧ g.h0 ≤ h ∧ h < g.h0 + g.n :=
  ⟨List.mem_of_find?_eq_some hg, of_decide_eq_true (List.find?_some hg :)⟩

/-! ## Columns and figure codes (R27) -/

/-- The spelling of the statement: a direction other than DESC counts up. -/
theorem along_eq_ite (d : TieDirection) (start offset : Int) :
    along d start offset = if d = .desc then start - offset else start + offset := by
  cases d <;> rfl

theorem runCode_append_cons (before after : List Run) (r : Run) (c : Nat)
    (hlow : (before.map Run.length).sum ≤ c) (hhigh : c < (before.map Run.length).sum + r.length) :
    runCode (before ++ r :: after) c = some r.code := by
  induction before generalizing c with
  | nil =>
    have hc : c < r.length := by simpa using hhigh
    exact if_pos hc
  | cons b bs ih =>
    simp only [List.map_cons, List.sum_cons] at hlow hhigh
    have hskip : ¬ c < b.length := by omega
    exact (if_neg hskip).trans (ih (c - b.length) (by omega) (by omega))

theorem runCode_eq_none_iff (runs : List Run) (c : Nat) : runCode runs c = none ↔ (runs.map Run.length).sum ≤ c := by
  induction runs generalizing c with
  | nil => simp [runCode]
  | cons r rs ih =>
    simp only [runCode, List.map_cons, List.sum_cons]
    split
    · simp only [reduceCtorEq, false_iff]
      omega
    · rw [ih]
      omega

/-- Runs that fill the bound width leave no column within it without a code. -/
theorem columnCode_isNone_iff {row : BacklogRow} (hfill : (row.runs.map Run.length).sum = row.width) (c : Int) :
    (columnCode row c).isNone = true ↔ c < 0 ∨ (row.width : Int) ≤ c := by
  unfold columnCode
  split
  · rw [Option.isNone_iff_eq_none, runCode_eq_none_iff, hfill]
    omega
  · simp only [Option.isNone_none, true_iff]
    omega

theorem outsideDesign_of_uncovered {t : Tables} {row : BacklogRow} {h : Nat} (hs : segmentOf t.tie h = none) :
    outsideDesign t row h = false := by
  simp only [outsideDesign, hs]

theorem outsideDesign_iff {t : Tables} {row : BacklogRow} {h : Nat} {g : Segment}
    (hfill : (row.runs.map Run.length).sum = row.width) (hs : segmentOf t.tie h = some g) :
    outsideDesign t row h = true ↔
      g.kind = .figure ∧ (figureColumn g (h - g.h0) < 0 ∨ (row.width : Int) ≤ figureColumn g (h - g.h0)) := by
  simp only [outsideDesign, hs, Bool.and_eq_true, beq_iff_eq, columnCode_isNone_iff hfill]

/-! ## Slots, codes and their rendering (R28, R29) -/

theorem weaveAt_of_loaded {t : Tables} {slot : Fin 16} {w : Geometry} (hw : t.weaves[slot] = .loaded w) :
    weaveAt t slot = some w := by
  simp only [weaveAt, slot.isLt, dif_pos]
  exact congrArg loadedGeometry hw

theorem codeAt_of_mapped {t : Tables} {code : Fin 16} {f : CodeFields} (hf : t.codes[code] = .mapped f) :
    codeAt t code = some f := by
  simp only [codeAt, code.isLt, dif_pos]
  exact congrArg mappedFields hf

theorem codeRendering_of_not_ready {t : Tables} {code : Nat} (hc : codeReady t code = false) :
    codeRendering t code = none := by
  simp [codeRendering, hc]

/-- A MAPPED code whose slot is LOADED is ready, and is rendered by its entry. -/
theorem codeRendering_of_mapped {t : Tables} {code slot : Fin 16} {f : CodeFields} {w : Geometry}
    (hf : t.codes[code] = .mapped f) (hslot : f.slot = slot) (hw : t.weaves[slot] = .loaded w) :
    codeRendering t code = some ⟨slot, f.invert, f.dx, f.dy⟩ := by
  have hready : codeReady t code = true := by
    simp only [codeReady, codeAt_of_mapped hf, weaveLoaded, hslot, weaveAt_of_loaded hw, Option.isSome_some]
  simp only [codeRendering, hready, if_true, codeAt_of_mapped hf, Option.map_some, hslot]

/-! ## The lift (R30, R31) -/

/-- The cell of end `e` and row `y` of a weave, inverted when `invert` is 1. -/
theorem weaveLift_of_loaded {t : Tables} {snapshot : Vector (Option Nat) 16} {slot : Fin 16} {w : Geometry} {counter : Nat}
    (hw : t.weaves[slot] = .loaded w) (hsnap : snapshot[slot] = some counter) (g : Segment) (q invert dx dy : Nat) :
    weaveLift t snapshot g q ⟨slot, invert, dx, dy⟩ =
      ((w.cells[((counter + dy) % w.h) * w.w + ((along g.direction g.e0 q + dx) % w.w).toNat]?.getD false) !=
        decide (invert = 1)) := by
  have hrow : (if h : slot.val < 16 then snapshot[slot.val] else none) = some counter := (dif_pos slot.isLt).trans hsnap
  simp only [weaveLift, weaveAt_of_loaded hw, hrow, List.getD_eq_getElem?_getD, beq_eq_decide]

section
variable {t : Tables} {row : BacklogRow} {h : Nat} {g : Segment}

theorem hookLift_of_uncovered (snapshot : Vector (Option Nat) 16) (hs : segmentOf t.tie h = none) :
    hookLift t row snapshot h = false := by
  simp only [hookLift, hs]

theorem hookLift_of_no_rendering (snapshot : Vector (Option Nat) 16) (hs : segmentOf t.tie h = some g)
    (hr : hookRendering t row g h = none) : hookLift t row snapshot h = false := by
  simp only [hookLift, hs, hr]

theorem hookLift_of_rendering {r : Rendering} (snapshot : Vector (Option Nat) 16) (hs : segmentOf t.tie h = some g)
    (hr : hookRendering t row g h = some r) :
    hookLift t row snapshot h = weaveLift t snapshot g (h - g.h0) r := by
  simp only [hookLift, hs, hr]

theorem hookRendering_of_void (hk : g.kind = .void) : hookRendering t row g h = none := by
  simp only [hookRendering, hk]

theorem hookRendering_of_selvedge {slot invert : Nat} (hk : g.kind = .selvedge) (hg : g.selvedge = some (slot, invert)) :
    hookRendering t row g h = some ⟨slot, invert, 0, 0⟩ := by
  simp only [hookRendering, hk, hg, Option.map_some]

theorem hookRendering_of_figure (hk : g.kind = .figure) :
    hookRendering t row g h = codeRendering t ((columnCode row (figureColumn g (h - g.h0))).getD 0) := by
  simp only [hookRendering, hk]
end

/-- Settles O45: the rendering of the hook by the kind of its segment, then the cell of the slot it names; the runs by
induction along the row. -/
theorem hookLiftByTables : Obligations.HookLiftByTables := by
  unfold Obligations.HookLiftByTables
  simp only [← along_eq_ite]
  refine ⟨fun t row snapshot h => ⟨hookLift_of_uncovered snapshot, fun g hs _ => ⟨fun hk => ?void, ?selvedge, ?figure⟩⟩,
    fun tie h => ⟨segmentOf_eq_none_iff, fun g => mem_and_covers_of_segmentOf⟩, runCode_append_cons,
    fun t row h hfill => ⟨outsideDesign_of_uncovered, fun g hs _ => outsideDesign_iff hfill hs⟩⟩
  case void => exact hookLift_of_no_rendering snapshot hs (hookRendering_of_void hk)
  case selvedge =>
    intro slot invert w counter hk hg _ hw _ hsnap
    rw [hookLift_of_rendering snapshot hs (hookRendering_of_selvedge hk hg)]
    exact weaveLift_of_loaded hw hsnap g _ invert 0 0
  case figure =>
    intro code hk hcode
    have hrender : hookRendering t row g h = codeRendering t code := by
      rw [hookRendering_of_figure hk, hcode, columnCode, figureColumn]
    refine ⟨fun hc => ?_, fun slot f w counter hf hslot _ hw _ hsnap => ?_⟩
    · exact hookLift_of_no_rendering snapshot hs (hrender.trans (codeRendering_of_not_ready hc))
    · rw [hookLift_of_rendering snapshot hs (hrender.trans (codeRendering_of_mapped hf hslot hw))]
      exact weaveLift_of_loaded hw hsnap g _ f.invert f.dx f.dy

end Sys2Proof.Proofs.PickExpansion

/-! PROOFS. Raising an event (R145): what a raise leaves in the event records and in the node state, when the attention bit
and the stop hold are set (R148, R150), and from these the statement on a raise. -/

namespace Sys2Proof.Proofs.EventRaise

open Sys2Proof Sys2Proof.Machine

/-! ## The event records and the node state after a raise (R145) -/

theorem raise_events_self (k : EventKind) (s : State) :
    (raise k s).control.events[kindNumber k] = raisedRecord s.control.events[kindNumber k] :=
  Vector.getElem_set_self (kindNumber k).isLt

theorem raise_events_of_ne {k : EventKind} {j : Fin 26} (hj : j ≠ kindNumber k) (s : State) :
    (raise k s).control.events[j] = s.control.events[j] :=
  Vector.getElem_set_ne (kindNumber k).isLt j.isLt fun h => hj (Fin.ext h.symm)

theorem raise_node_of_stop {k : EventKind} {s : State} (hlevel : s.control.events[kindNumber k].level = .stop)
    (hrun : s.control.node = .run) : (raise k s).control.node = .halt :=
  if_pos ⟨hlevel, hrun⟩

theorem raise_node_of_not_stop {k : EventKind} {s : State}
    (h : ¬(s.control.events[kindNumber k].level = .stop ∧ s.control.node = .run)) :
    (raise k s).control.node = s.control.node :=
  if_neg h

/-- A raise touches the event unit alone. -/
theorem raise_eq_setControl (k : EventKind) (s : State) : raise k s = s.setControl (raise k s).control :=
  rfl

/-! ## The bits worked out from the records (R141, R148, R150) -/

theorem callsAttention_iff {e : EventRecord} : callsAttention e = true ↔ e.flag = true ∧ e.level ≠ .record := by
  rcases e with ⟨flag, count, level⟩
  cases level <;> simp [callsAttention]

theorem holdsStop_iff {e : EventRecord} : holdsStop e = true ↔ e.flag = true ∧ e.level = .stop := by
  simp only [holdsStop, Bool.and_eq_true, beq_iff_eq]

/-- One record that calls attention sets the attention bit. -/
theorem attention_of_callsAttention {s : State} (j : Fin 26) (hj : callsAttention s.control.events[j] = true) :
    attention s = true :=
  List.any_eq_true.mpr ⟨_, Vector.mem_toList_iff.mpr (Vector.getElem_mem j.isLt), hj⟩

/-- One STOP-level flag sets the stop hold. -/
theorem stopHold_of_holdsStop {s : State} (j : Fin 26) (hj : holdsStop s.control.events[j] = true) : stopHold s = true :=
  List.any_eq_true.mpr ⟨_, Vector.mem_toList_iff.mpr (Vector.getElem_mem j.isLt), hj⟩

theorem stopRequest_of_halt {s : State} (h : s.control.node = .halt) : stopRequest s = true := by
  simp [stopRequest, h]

/-! ## The statement on a raise -/

/-- The record raised has its flag set, so that its level alone says whether it calls attention. -/
theorem attention_raise {k : EventKind} {s : State} (hlevel : s.control.events[kindNumber k].level ≠ .record) :
    attention (raise k s) = true := by
  apply attention_of_callsAttention (kindNumber k)
  rw [raise_events_self]
  exact callsAttention_iff.mpr ⟨rfl, hlevel⟩

theorem stopHold_raise {k : EventKind} {s : State} (hlevel : s.control.events[kindNumber k].level = .stop) :
    stopHold (raise k s) = true := by
  apply stopHold_of_holdsStop (kindNumber k)
  rw [raise_events_self]
  exact holdsStop_iff.mpr ⟨rfl, hlevel⟩

/-- Settles O50: the records and the node state from what a raise leaves in them, the attention bit and the stop hold from
the record raised. -/
theorem raiseTakenWhole : Obligations.RaiseTakenWhole := by
  unfold Obligations.RaiseTakenWhole
  intro k s
  refine ⟨raise_events_self k s, fun _ hj => raise_events_of_ne hj s, fun hlevel hrun => ?halted, raise_node_of_not_stop,
    attention_raise, stopHold_raise, raise_eq_setControl k s⟩
  case halted =>
    have hhalt : (raise k s).control.node = .halt := raise_node_of_stop hlevel hrun
    exact ⟨hhalt, stopRequest_of_halt hhalt⟩

end Sys2Proof.Proofs.EventRaise

/-! PROOFS. The Pick Store under every step (R37-R55): the law of the history, the rewind depth and the overshoot count, and
the order of the Pick Queue with its tie to the expected pick number. -/

namespace Sys2Proof.Proofs.StoreLaws

open Sys2Proof Sys2Proof.Machine

/-! ## History, rewind depth and overshoot (R41, R42, R50) -/

/-- The law speaks of the history's length, the rewind depth, the overshoot count and the woven-pick count alone. -/
theorem storeLaw_of_eq {p q : PickStore} (hp : StoreLaw p) (hhist : q.history = p.history) (hrew : q.rewind = p.rewind)
    (hover : q.overshoot = p.overshoot) (hwoven : q.woven = p.woven) : StoreLaw q := by
  simpa only [StoreLaw, hhist, hrew, hover, hwoven] using hp

/-- The history with one entry more, the oldest evicted when there are 16. -/
theorem evicted_length {hist : List HistoryEntry} (h : hist.length ≤ 16) (e : HistoryEntry) :
    1 ≤ (hist.drop (hist.length + 1 - 16) ++ [e]).length ∧ (hist.drop (hist.length + 1 - 16) ++ [e]).length ≤ 16 := by
  simp only [List.length_append, List.length_drop, List.length_singleton]
  omega

theorem storeAfterForward_law {s : State} (h : StoreLaw s.store) : StoreLaw (storeAfterForward s) := by
  have hlen := evicted_length h.1
  obtain ⟨hhist, hrew, hover, hmax, hwoven⟩ := h
  have hcount : (s.store.woven + 1) % 4294967296 < 4294967296 := Nat.mod_lt _ (by omega)
  unfold storeAfterForward
  dsimp only
  split
  · exact ⟨hhist, hrew, fun _ => hover (by omega), by dsimp only; omega, hcount⟩
  · split
    · exact ⟨hhist, by dsimp only; omega, fun hne => by dsimp only at hne; omega, hmax, hcount⟩
    · split
      · exact ⟨(hlen _).2, by dsimp only; omega, fun hne => by dsimp only at hne; omega, hmax, hcount⟩
      · split
        · exact ⟨(hlen _).2, by dsimp only; omega, fun hne => by dsimp only at hne; omega, hmax, hcount⟩
        · exact ⟨(hlen _).2, by dsimp only; omega, fun hne => by dsimp only at hne; omega, hmax, hcount⟩

theorem isRewindLimit_iff (p : PickStore) : isRewindLimit p = true ↔ p.history.length - 1 ≤ p.rewind := by
  cases h : p.history with
  | nil => simp [isRewindLimit, h]
  | cons e es => simp [isRewindLimit, h]

theorem storeAfterReverse_law {p : PickStore} (h : StoreLaw p) : StoreLaw (storeAfterReverse p) := by
  obtain ⟨hhist, hrew, hover, hmax, hwoven⟩ := h
  have hlimit := isRewindLimit_iff p
  unfold storeAfterReverse
  split
  case isTrue hl =>
    rw [hlimit] at hl
    exact ⟨hhist, hrew, fun _ => by dsimp only; omega, by dsimp only; omega, hwoven⟩
  case isFalse hl =>
    rw [hlimit] at hl
    refine ⟨hhist, by dsimp only; omega, fun hne => ?_, hmax, hwoven⟩
    have := hover hne
    omega

theorem storeForward_store {s : State} (h : s.store.history.length ≤ 16) :
    (storeForward s).store = storeAfterForward s := by
  simp [storeForward_eq h]

theorem storeReverse_store (s : State) : (storeReverse s).store = storeAfterReverse s.store := by
  simp [storeReverse_eq]

theorem performCommand_storeLaw (c : Command) {s : State} (h : StoreLaw s.store) :
    StoreLaw (performCommand c s).state.store := by
  rcases performCommand_store c s with hc | hc | hc | hc <;> rw [hc]
  · exact h
  · exact h
  · exact ⟨by simp, by simp, by simp, by simp, h.2.2.2.2⟩
  · decide

/-- Settles O51: a crossing by the two tables of R46 and R49, every other operation leaves the law's counts alone or zeroes
them. -/
theorem storeLawKept : Obligations.StoreLawKept := by
  unfold Obligations.StoreLawKept
  intro s t hs hstep
  refine step_keeps (P := fun s => StoreLaw s.store) (port := fun _ _ h => h) (pending := fun _ _ h => h)
    (event := fun _ _ h => h) (power := fun _ _ => show StoreLaw State.reset.store by decide) (lines := ?lines) (lost := fun _ h _ => h)
    (capture := fun _ h => h) (input := fun _ _ h => by simpa using h) (inputs := fun _ _ _ h => by simpa using h)
    (row := fun _ _ _ h _ _ => storeLaw_of_eq h (by simp) (by simp) (by simp) (by simp))
    (command := fun c _ h _ => performCommand_storeLaw c h) (flush := fun _ h => by simpa using h)
    (marker := fun _ _ _ h => by simpa using h)
    (record := fun _ h => storeLaw_of_eq h (by simp) (by simp) (by simp) (by simp))
    (shift := fun _ _ h => by simpa using h) (rest := fun _ _ _ h => by simpa using h) (time := fun _ h => h) hs hstep
  case lines =>
    refine fun a b z s hs => encoderLines_keeps (P := fun s => StoreLaw s.store) (fun _ _ h => h) (fun _ _ h => h)
      (fun _ _ h => h) (fun s h _ => ?_) (fun s h _ => ?_) a b z s hs
    · rw [storeForward_store h.1]
      exact storeAfterForward_law h
    · rw [storeReverse_store]
      exact storeAfterReverse_law h

/-! ## The order of the queue (R37, R38, R180) -/

/-- One pick and sub-index follow another in the order of R38. -/
def FollowsId (a b : PickId) : Prop :=
  (b.pick = a.pick ∧ b.sub = a.sub + 1) ∨ (b.pick = (a.pick + 1) % 65536 ∧ b.sub = 0)

/-- A queue within its size and its order, whose newest record's pick is followed by `expected`. -/
def QueueOrder (queue : List LiftRecord) (expected : Nat) : Prop :=
  queue.length ≤ 8 ∧ queue.Pairwise (fun a b => b.state = .ready → a.state = .ready) ∧
    (queue.map LiftRecord.id).IsChain FollowsId ∧
    ∀ i ∈ (queue.map LiftRecord.id).getLast?, expected = (i.pick + 1) % 65536

theorem queueLaw_iff (s : State) : QueueLaw s ↔ QueueOrder s.store.queue s.admission.expected := by
  have hchain : s.store.queue.IsChain Follows ↔ (s.store.queue.map LiftRecord.id).IsChain FollowsId := by
    rw [List.isChain_map]
    rfl
  simp only [QueueLaw, QueueOrder, hchain, List.getLast?_map, Option.mem_map, forall_exists_index, and_imp,
    forall_apply_eq_imp_iff₂]

theorem queueLaw_of_eq {s t : State} (h : QueueLaw s) (hqueue : t.store.queue = s.store.queue)
    (hadmission : t.admission = s.admission) : QueueLaw t := by
  rw [queueLaw_iff] at h ⊢
  rwa [hqueue, hadmission]

theorem queueOrder_nil (expected : Nat) : QueueOrder [] expected := by
  simp [QueueOrder]

theorem queueOrder_tail {r : LiftRecord} {rest : List LiftRecord} {expected : Nat}
    (h : QueueOrder (r :: rest) expected) : QueueOrder rest expected := by
  obtain ⟨hlen, hready, hchain, hlast⟩ := h
  refine ⟨by simp only [List.length_cons] at hlen; omega, hready.tail, hchain.tail, fun i hi => hlast i ?_⟩
  simp only [List.map_cons, List.getLast?_cons, Option.mem_def] at hi ⊢
  simp [hi]

/-- Readying the record under work keeps READY records ahead of EXPANDING ones. -/
theorem updateUnderWork_pairwise {f : LiftRecord → LiftRecord} (hf : ∀ r, (f r).state = .ready) {q : List LiftRecord}
    (h : q.Pairwise fun a b => b.state = .ready → a.state = .ready) :
    (updateUnderWork f q).Pairwise fun a b => b.state = .ready → a.state = .ready := by
  induction q with
  | nil => exact List.Pairwise.nil
  | cons r rs ih =>
    have hrs := (List.pairwise_cons.mp h).2
    unfold updateUnderWork
    split
    · exact List.pairwise_cons.mpr ⟨fun _ _ _ => hf r, hrs⟩
    · rename_i hr
      have hready : r.state = .ready := by cases hs : r.state <;> simp_all
      exact List.pairwise_cons.mpr ⟨fun _ _ _ => hready, ih hrs⟩

theorem queueOrder_update {lifts : List Bool} {mark : Bool} {q : List LiftRecord} {expected : Nat}
    (h : QueueOrder q expected) : QueueOrder (updateUnderWork (finishRecord lifts mark) q) expected := by
  obtain ⟨hlen, hready, hids⟩ := h
  refine ⟨by rwa [updateUnderWork_length], updateUnderWork_pairwise (fun _ => rfl) hready, ?_⟩
  rwa [updateUnderWork_map (finishRecord lifts mark) LiftRecord.id fun _ => rfl]

theorem recordDone_queueLaw {s : State} (h : QueueLaw s) : QueueLaw (recordDone s) := by
  rw [queueLaw_iff] at h ⊢
  simp only [recordDone_frame]
  rcases recordDone_queue s with hq | ⟨lifts, mark, hq⟩ <;> rw [hq]
  · exact h
  · exact queueOrder_update h

theorem recordsDone_queueLaw (n : Nat) {s : State} (h : QueueLaw s) : QueueLaw (recordsDone n s) := by
  induction n generalizing s with
  | zero => exact h
  | succ n ih => exact ih (recordDone_queueLaw h)

/-- The records of one accepted row follow one another. -/
theorem rowIds_chain (pick n : Nat) : ((List.range n).map fun j => PickId.mk pick j).IsChain FollowsId := by
  rw [List.isChain_map]
  exact (List.isChain_range _ n).mpr fun m _ => .inl ⟨rfl, rfl⟩

/-- A row that joins the queue at the expected pick number. -/
theorem queueOrder_append {q : List LiftRecord} {row : DesignRow} {feeder expected : Nat} {s : State}
    (h : QueueOrder q expected) (hpick : row.pick = expected) (hcount : 1 ≤ row.count) (hroom : q.length + row.count ≤ 8) :
    QueueOrder (q ++ (List.range row.count).map (newRecord s row feeder)) ((row.pick + 1) % 65536) := by
  obtain ⟨-, hready, hchain, hlast⟩ := h
  have hids : ((List.range row.count).map (newRecord s row feeder)).map LiftRecord.id =
      (List.range row.count).map fun j => PickId.mk row.pick j := by
    rw [List.map_map]; rfl
  refine ⟨by simpa using hroom, ?_, ?_, ?_⟩
  · refine List.pairwise_append.mpr ⟨hready, List.pairwise_map.mpr (List.pairwise_of_forall fun _ _ hb => by cases hb), ?_⟩
    intro a _ b hb hready
    obtain ⟨j, -, rfl⟩ := List.mem_map.mp hb
    cases hready
  · rw [List.map_append, hids, List.isChain_append]
    refine ⟨hchain, rowIds_chain _ _, fun x hx y hy => .inr ?_⟩
    rw [List.head?_map, List.head?_range, if_neg (by omega)] at hy
    obtain rfl : PickId.mk row.pick 0 = y := by simpa using hy
    exact ⟨hpick.trans (hlast x hx), rfl⟩
  · rw [List.map_append, hids, List.getLast?_append, List.getLast?_map, List.getLast?_range, if_neg (by omega)]
    simp

theorem rowOk_count {width : Nat} {row : DesignRow} (h : rowOk width row = true) : 1 ≤ row.count := by
  simp only [rowOk, Bool.and_eq_true, decide_eq_true_eq] at h
  omega

theorem acceptRow_queueLaw {body : List Byte} {row : DesignRow} {s : State} (h : QueueLaw s)
    (hjudge : judgeDesign body s = .accepted) (hdecode : decodeDesign body = some row) : QueueLaw (acceptRow row s) := by
  obtain ⟨-, -, hshape, -, hpick, -, -, -, hfree, -⟩ := judgeDesign_accepted hjudge hdecode
  have hcount := rowOk_count hshape
  have hreserve : ∀ feeder, QueueLaw (reserveRow row feeder s) := fun feeder => by
    rw [queueLaw_iff] at h ⊢
    exact queueOrder_append h hpick hcount (by have := h.1; simp only [queueFree, Config.queueSize] at hfree; omega)
  unfold acceptRow startEngine
  split
  · exact recordsDone_queueLaw _ (hreserve _)
  · exact hreserve _

/-- A forward crossing takes at most the oldest record, and only a READY one (R46). -/
theorem forwardCase_queue (s : State) :
    (forwardCase s).store.queue = s.store.queue ∨
      ∃ r, r.state = .ready ∧ s.store.queue = r :: (forwardCase s).store.queue := by
  unfold forwardCase
  split
  · exact .inl rfl
  · split
    · exact .inl rfl
    · cases hq : s.store.queue with
      | nil => exact .inl hq
      | cons r rest =>
        cases hr : r.state with
        | ready =>
          refine .inr ⟨r, hr, ?_⟩
          simp [readyHead, hr]
        | expanding =>
          refine .inl ?_
          simp [readyHead, hr, hq]

theorem storeForward_queue (s : State) :
    (storeForward s).store.queue = s.store.queue ∨
      ∃ r, r.state = .ready ∧ s.store.queue = r :: (storeForward s).store.queue := by
  have hqueue : (storeForward s).store.queue = (forwardCase s).store.queue := by simp [storeForward, countWoven]
  rw [hqueue]
  exact forwardCase_queue s

theorem storeForward_queueLaw {s : State} (h : QueueLaw s) : QueueLaw (storeForward s) := by
  rw [queueLaw_iff] at h ⊢
  simp only [storeForward_frame]
  rcases storeForward_queue s with hq | ⟨r, -, hq⟩
  · rwa [hq]
  · rw [hq] at h
    exact queueOrder_tail h

theorem performCommand_queueLaw (c : Command) {s : State} (h : QueueLaw s) :
    QueueLaw (performCommand c s).state := by
  cases c
  case discardQueue expected =>
    simp only [performCommand, cmdDiscard]
    split
    · exact h
    · rw [queueLaw_iff]
      exact queueOrder_nil _
  case reset =>
    rw [queueLaw_iff]
    simpa [performCommand, cmdReset, accept, resetNode, emptyStore] using queueOrder_nil _
  case clearHistory =>
    simp only [performCommand, cmdClearHistory]
    split <;> exact h
  all_goals
    exact queueLaw_of_eq h (by simp [performCommand, cmdConfigureUnknown, refuse])
      (by simp [performCommand, cmdConfigureUnknown, refuse])

/-- Settles O52: the queue loses its oldest record at a crossing, gains a row of the expected pick at an acceptance, and
changes a record in place as it turns READY. -/
theorem queueLawKept : Obligations.QueueLawKept := by
  unfold Obligations.QueueLawKept
  intro s t hs hstep
  refine step_keeps (P := QueueLaw) (port := fun _ _ h => h) (pending := fun _ _ h => h) (event := fun _ _ h => h)
    (power := fun _ _ => (queueLaw_iff _).mpr (queueOrder_nil _)) (lines := ?lines) (lost := fun _ h _ => h)
    (capture := fun _ h => h) (input := fun _ _ h => queueLaw_of_eq h (by simp) (by simp)) (inputs := fun _ _ _ h => queueLaw_of_eq h (by simp) (by simp))
    (row := fun _ _ _ h hj hd => acceptRow_queueLaw h hj hd) (command := fun c _ h _ => performCommand_queueLaw c h)
    (flush := fun _ h => queueLaw_of_eq h (by simp) (by simp)) (marker := fun _ _ _ h => queueLaw_of_eq h (by simp) (by simp))
    (record := fun _ h => recordDone_queueLaw h) (shift := fun _ _ h => queueLaw_of_eq h (by simp) (by simp))
    (rest := fun _ _ _ h => queueLaw_of_eq h (by simp) (by simp)) (time := fun _ h => h) hs hstep
  case lines =>
    exact fun a b z s hs => encoderLines_keeps (P := QueueLaw) (fun _ _ h => h) (fun _ _ h => h) (fun _ _ h => h)
      (fun s h _ => storeForward_queueLaw h) (fun s h _ => queueLaw_of_eq h (by simp) (by simp)) a b z s hs

end Sys2Proof.Proofs.StoreLaws

/-! PROOFS. Predicates that whole operations keep: the status of a shift, a request for a shift and a crossing, a status word,
the loom inputs. Each is said once over the few parts of the state it can touch. -/

namespace Sys2Proof.Proofs.Keeps

open Sys2Proof Sys2Proof.Machine

section
variable {P : State → Prop}

/-- Settling a hook of the record under work touches the engine and the draws (R32). -/
theorem settleHook_keeps (engine : ∀ s x, P s → P (s.setEngine x)) (draws : ∀ s x, P s → P (s.setDraws x)) (h : Nat)
    (forced : Bool) {s : State} (hs : P s) : P (settleHook h forced s) := by
  unfold settleHook
  split
  · exact hs
  · exact draws _ _ (engine _ _ hs)

theorem settleListed_keeps (engine : ∀ s x, P s → P (s.setEngine x)) (draws : ∀ s x, P s → P (s.setDraws x))
    (es : List FaultEntry) {s : State} (hs : P s) : P (settleListed es s) := by
  induction es generalizing s with
  | nil => exact hs
  | cons e es ih => exact ih (settleHook_keeps engine draws _ _ hs)

/-- What the words of a status can touch: Hook Health, the events, what is settled and the draws. -/
theorem takeWord_keeps_of_settle (health : ∀ s x, P s → P (s.setHealth x)) (event : ∀ k s, P s → P (raise k s))
    (settle : ∀ h forced s, P s → P (settleHook h forced s)) (latch : Shift) (c : Fin 6)
    (k : Nat) (w : StatusWord) {s : State} (hs : P s) : P (takeWord latch c k w s) := by
  have latchFull : ∀ s, P s → P (latchIfFull c k s) := by
    intro s hs
    unfold latchIfFull
    split
    · exact hs
    · split
      · split
        · exact event _ _ (health _ _ hs)
        · exact hs
      · split
        · exact event _ _ (health _ _ hs)
        · exact hs
      · exact hs
      · exact hs
  have finding : ∀ e s, P s → P (takeFinding c k e s) := by
    intro e s hs
    unfold takeFinding
    split
    · exact hs
    · split
      · exact latchFull _ (event _ _ (health _ _ (settle _ _ _ hs)))
      · exact event _ _ (health _ _ hs)
  have findings : ∀ fs h s, P s → P (takeFindings latch c k h fs s) := by
    intro fs
    induction fs with
    | nil => exact fun _ _ hs => hs
    | cons f fs ih =>
      intro h s hs
      refine ih _ _ ?_
      split
      · exact finding _ _ hs
      · exact hs
  have struck : ∀ r s, P s → P (strike c k r s) := by
    intro r s hs
    unfold strike
    split <;> exact event _ _ (health _ _ hs)
  have overcurrent : ∀ b s, P s → P (takeOvercurrent c k b s) := by
    intro b s hs
    unfold takeOvercurrent
    split
    · exact hs
    · split
      · split
        · exact struck _ _ hs
        · unfold cleanShift
          split <;> exact health _ _ hs
      · split
        · exact struck _ _ hs
        · exact hs
      · exact hs
      · exact hs
  have judge : ∀ b s, P s → P (judgeChain c b s) := by
    intro b s hs
    unfold judgeChain
    split
    · exact event _ _ hs
    · exact hs
  unfold takeWord
  split
  · exact hs
  · refine judge _ _ ?_
    split
    · refine overcurrent _ _ ?_
      split
      · exact hs
      · exact findings _ _ _ hs
    · unfold loseModule
      split
      · exact hs
      · exact event _ _ (health _ _ hs)

theorem takeWord_keeps (health : ∀ s x, P s → P (s.setHealth x)) (event : ∀ k s, P s → P (raise k s))
    (engine : ∀ s x, P s → P (s.setEngine x)) (draws : ∀ s x, P s → P (s.setDraws x)) (latch : Shift) (c : Fin 6)
    (k : Nat) (w : StatusWord) {s : State} (hs : P s) : P (takeWord latch c k w s) :=
  takeWord_keeps_of_settle health event (fun h forced _ hs => settleHook_keeps engine draws h forced hs) latch c k w hs

/-- A predicate that each word keeps is kept by the whole status (R114). -/
theorem takeStatus_keeps_of_words {latch : Shift} (word : ∀ c k w s, P s → P (takeWord latch c k w s))
    (status : List (List StatusWord)) {s : State} (hs : P s) : P (takeStatus latch status s) := by
  have chain : ∀ c n k ws s, P s → P (takeChain latch c k n ws s) := by
    intro c n
    induction n with
    | zero => exact fun _ _ _ hs => hs
    | succ n ih => exact fun k ws s hs => ih _ _ _ (word _ _ _ _ hs)
  exact List.foldlRecOn _ _ hs fun t ht c _ => chain _ _ _ _ _ ht

/-- The end of a shift, by its latch, its words and the shift that starts after it (R111). -/
theorem endShift_keeps (latched : ∀ sh s, s.selector.shift = some sh → P s → P (latchShift sh s))
    (word : ∀ latch c k w s, P s → P (takeWord latch c k w s))
    (starts : ∀ s, P s → P (startPending s)) (status : List (List StatusWord)) {s : State} (hs : P s) :
    P (endShift status s) := by
  unfold endShift
  split
  · exact hs
  · rename_i sh hsh
    exact starts _ (takeStatus_keeps_of_words (word _) _ (latched _ _ hsh hs))

theorem startShift_keeps (selector : ∀ s x, P s → P (s.setSelector x)) (kind : ShiftKind) {s : State} (hs : P s) :
    P (startShift kind s) := by
  unfold startShift
  split <;> exact selector _ _ hs

theorem startPending_keeps (selector : ∀ s x, P s → P (s.setSelector x)) {s : State} (hs : P s) : P (startPending s) := by
  unfold startPending
  split
  · exact hs
  · exact startShift_keeps selector _ (selector _ _ hs)

theorem requestPattern_keeps (selector : ∀ s x, P s → P (s.setSelector x)) (event : ∀ k s, P s → P (raise k s))
    {s : State} (hs : P s) : P (requestPattern s) := by
  unfold requestPattern
  split
  · exact startShift_keeps selector _ hs
  · exact event _ _ (selector _ _ hs)
  · exact event _ _ (selector _ _ hs)
  · exact event _ _ hs

/-- A forward crossing of the store changes its queue only as `forwardCase` does, and touches the events and the selector
(R46, R109). -/
theorem storeForward_keeps (store : ∀ s x, P s → P (s.setStore x)) (selector : ∀ s x, P s → P (s.setSelector x))
    (event : ∀ k s, P s → P (raise k s)) {s : State} (hs : P s) : P (storeForward s) := by
  refine requestPattern_keeps selector event (store _ _ ?_)
  unfold forwardCase
  split
  · exact store _ _ hs
  · split
    · exact store _ _ hs
    · split
      · exact store _ _ hs
      · exact event _ _ (store _ _ hs)

theorem storeReverse_keeps (store : ∀ s x, P s → P (s.setStore x)) (selector : ∀ s x, P s → P (s.setSelector x))
    (event : ∀ k s, P s → P (raise k s)) {s : State} (hs : P s) : P (storeReverse s) := by
  refine requestPattern_keeps selector event ?_
  unfold reverseCase
  split
  · exact store _ _ hs
  · exact event _ _ (store _ _ hs)

/-- Entry to IDLE touches the node state, the tracker, the weft unit and the selector (R139). -/
theorem enterIdle_keeps (tracker : ∀ s x, P s → P (s.setTracker x)) (weft : ∀ s x, P s → P (s.setWeft x))
    (selector : ∀ s x, P s → P (s.setSelector x)) {s : State} (hs : P (setNode .idle s)) : P (enterIdle s) := by
  have h : P (setFeeder 0 (closeWindow (disarmEvents (setNode .idle s)))) := weft _ _ (weft _ _ (tracker _ _ hs))
  unfold enterIdle idleEntryShift
  split
  · exact startShift_keeps selector _ h
  · split <;> exact selector _ _ h

/-- An edge on an input touches the weft unit and the events (R96). -/
theorem inputLevel_keeps (weft : ∀ s x, P s → P (s.setWeft x)) (event : ∀ k s, P s → P (raise k s)) (n : Fin 7)
    (level : Bool) {s : State} (hs : P s) : P (inputLevel n level s) := by
  unfold inputLevel
  dsimp only
  split
  · exact event _ _ (weft _ _ (weft _ _ hs))
  · exact weft _ _ hs

theorem inputZero_keeps (weft : ∀ s x, P s → P (s.setWeft x)) (level : Bool) {s : State} (hs : P s) :
    P (inputZero level s) := by
  unfold inputZero arrivalEdge
  dsimp only
  split
  · split
    · split <;> exact weft _ _ (weft _ _ hs)
    · exact weft _ _ hs
  · exact weft _ _ hs

/-- Records finished touch the queue, the engine and the events (R33). -/
theorem recordDone_keeps (store : ∀ s x, P s → P (s.setStore x)) (engine : ∀ s x, P s → P (s.setEngine x))
    (event : ∀ k s, P s → P (raise k s)) {s : State} (hs : P s) : P (recordDone s) := by
  unfold recordDone
  split
  · unfold completeRecord nextRecord
    dsimp only
    refine engine _ _ ?_
    split
    · exact event _ _ (store _ _ hs)
    · exact store _ _ hs
  · exact hs

theorem recordsDone_keeps (done : ∀ s, P s → P (recordDone s)) (n : Nat) {s : State} (hs : P s) : P (recordsDone n s) := by
  induction n generalizing s with
  | zero => exact hs
  | succ n ih => exact ih (done _ hs)

theorem acceptRow_keeps (store : ∀ s x, P s → P (s.setStore x)) (engine : ∀ s x, P s → P (s.setEngine x))
    (admission : ∀ s x, P s → P (s.setAdmission x)) (event : ∀ k s, P s → P (raise k s)) (row : DesignRow) {s : State}
    (hs : P s) : P (acceptRow row s) := by
  have hreserve : ∀ feeder, P (reserveRow row feeder s) := fun _ => admission _ _ (engine _ _ (store _ _ hs))
  unfold acceptRow startEngine
  split
  · exact recordsDone_keeps (fun s hs => recordDone_keeps store engine event hs) _ (hreserve _)
  · exact hreserve _

/-- The end of a marker pass touches the selector and the events, and may complete the sizing (R102). -/
theorem endMarkerPass_keeps
    (selector : ∀ v w s, s.selector.sizing = .marker w → P s → P (s.setSelector { s.selector with sizing := .marker v }))
    (event : ∀ k s, P s → P (raise k s))
    (complete : ∀ v w s, s.selector.sizing = .marker w → P s → P (completeSizing v s)) (c : Fin 6)
    (p : Option (Fin 4096)) {s : State} (hs : P s) : P (endMarkerPass c p s) := by
  have completed : ∀ w x, x.selector.sizing = .marker w → P x → P (completeIfAll w x) := by
    intro w x hx hP
    unfold completeIfAll
    split
    · exact complete _ _ _ hx hP
    · exact hP
  unfold endMarkerPass
  split
  · rename_i hsizing
    split
    · exact hs
    · dsimp only
      split
      · exact completed _ _ rfl (event _ _ (selector _ _ _ hsizing hs))
      · exact completed _ _ rfl (selector _ _ _ hsizing hs)
  · exact hs
  · exact hs

end

end Sys2Proof.Proofs.Keeps

/-! PROOFS. The work in hand and the time of sizing under every step (R20-R25, R34, R35, R100-R102, R135, R191). -/

namespace Sys2Proof.Proofs.WorkAndInit

open Sys2Proof Sys2Proof.Machine Sys2Proof.Proofs.StoreLaws Sys2Proof.Proofs.Keeps

/-! ## The balance of queue and backlog -/

/-- How many records the rows of a backlog still have to do. -/
def toDo (backlog : List BacklogRow) : Nat := (backlog.map fun row => row.count - row.done).sum

/-- How many records of a queue are EXPANDING. -/
def expandingCount (queue : List LiftRecord) : Nat := (queue.filter fun r => r.state == .expanding).length

/-- The law of the work in hand but for its clause on the installed hooks, which acceptance breaks for a moment. -/
def Balanced (s : State) : Prop :=
  s.engine.backlog.length ≤ 2 ∧ (∀ row ∈ s.engine.backlog, row.done < row.count) ∧
    expandingCount s.store.queue = toDo s.engine.backlog

theorem workLaw_iff (s : State) : WorkLaw s ↔ Balanced s ∧ (installed s = 0 → s.engine.backlog = []) := by
  simp only [WorkLaw, Balanced, expandingCount, toDo]
  tauto

theorem expandingCount_update (lifts : List Bool) (mark : Bool) (q : List LiftRecord) :
    expandingCount (updateUnderWork (finishRecord lifts mark) q) = expandingCount q - 1 := by
  unfold expandingCount
  induction q with
  | nil => rfl
  | cons r rs ih =>
    unfold updateUnderWork
    split
    · rename_i hr
      simp [hr, finishRecord]
    · rename_i hr
      simpa [hr] using ih

theorem expandingCount_of_none {q : List LiftRecord} (h : recordUnderWork q = none) : expandingCount q = 0 := by
  unfold recordUnderWork at h
  rw [expandingCount, List.length_eq_zero_iff, List.filter_eq_nil_iff]
  exact List.find?_eq_none.mp h

theorem toDo_advance {backlog : List BacklogRow} (h : ∀ row ∈ backlog, row.done < row.count) :
    toDo (advanceBacklog backlog) = toDo backlog - 1 := by
  cases backlog with
  | nil => rfl
  | cons row rest =>
    have hrow := h row (by simp)
    simp only [toDo, advanceBacklog]
    split <;> simp only [List.map_cons, List.sum_cons] <;> omega

theorem advanceBacklog_rows {backlog : List BacklogRow} (h : ∀ row ∈ backlog, row.done < row.count) :
    ∀ row ∈ advanceBacklog backlog, row.done < row.count := by
  cases backlog with
  | nil => exact h
  | cons row rest =>
    obtain ⟨-, hrest⟩ := List.forall_mem_cons.mp h
    simp only [advanceBacklog]
    split
    · exact hrest
    · refine List.forall_mem_cons.mpr ⟨?_, hrest⟩
      dsimp only
      omega

theorem advanceBacklog_length (backlog : List BacklogRow) : (advanceBacklog backlog).length ≤ backlog.length := by
  cases backlog with
  | nil => exact le_rfl
  | cons row rest =>
    simp only [advanceBacklog]
    split <;> simp

theorem backlog_nil_of_toDo {backlog : List BacklogRow} (h : ∀ row ∈ backlog, row.done < row.count)
    (hzero : toDo backlog = 0) : backlog = [] := by
  cases backlog with
  | nil => rfl
  | cons row rest =>
    have hrow := h row (by simp)
    simp only [toDo, List.map_cons, List.sum_cons] at hzero
    omega

/-- Completing a record readies the record under work and moves its row on, or finds nothing to do (R24, R33). -/
theorem recordDone_work (s : State) :
    (recordDone s = s ∧ (s.engine.backlog = [] ∨ recordUnderWork s.store.queue = none)) ∨
      ∃ lifts mark, (recordDone s).store.queue = updateUnderWork (finishRecord lifts mark) s.store.queue ∧
        (recordDone s).engine.backlog = advanceBacklog s.engine.backlog := by
  cases hb : s.engine.backlog with
  | nil => exact .inl ⟨by simp [recordDone, hb], .inl rfl⟩
  | cons row rest =>
    cases hr : recordUnderWork s.store.queue with
    | none => exact .inl ⟨by simp [recordDone, hb, hr], .inr rfl⟩
    | some r =>
      refine .inr ⟨recordLifts s row r, recordMark s row, ?_⟩
      simp only [recordDone, hb, hr, completeRecord, nextRecord]
      split <;> simp [hb]

theorem recordDone_balanced {s : State} (h : Balanced s) :
    Balanced (recordDone s) ∧ toDo (recordDone s).engine.backlog = toDo s.engine.backlog - 1 := by
  obtain ⟨hlen, hrows, hcount⟩ := h
  rcases recordDone_work s with ⟨hs, hidle⟩ | ⟨lifts, mark, hq, hb⟩
  · have hzero : toDo s.engine.backlog = 0 := by
      rcases hidle with hb | hr
      · rw [hb]; rfl
      · rw [← hcount, expandingCount_of_none hr]
    rw [hs, hzero]
    exact ⟨⟨hlen, hrows, hcount⟩, rfl⟩
  · unfold Balanced
    rw [hq, hb, expandingCount_update, toDo_advance hrows, hcount]
    exact ⟨⟨(advanceBacklog_length _).trans hlen, advanceBacklog_rows hrows, rfl⟩, rfl⟩

theorem recordsDone_balanced (n : Nat) {s : State} (h : Balanced s) :
    Balanced (recordsDone n s) ∧ toDo (recordsDone n s).engine.backlog = toDo s.engine.backlog - n := by
  induction n generalizing s with
  | zero => exact ⟨h, rfl⟩
  | succ n ih =>
    obtain ⟨hdone, htodo⟩ := recordDone_balanced h
    obtain ⟨hrest, hsum⟩ := ih hdone
    exact ⟨hrest, by rw [recordsDone, hsum, htodo]; omega⟩

theorem reserveRow_balanced {row : DesignRow} {feeder : Nat} {s : State} (h : Balanced s) (hcount : 1 ≤ row.count)
    (hroom : s.engine.backlog.length < 2) :
    Balanced (reserveRow row feeder s) ∧
      toDo (reserveRow row feeder s).engine.backlog = toDo s.engine.backlog + row.count := by
  obtain ⟨-, hrows, hbal⟩ := h
  have htodo : toDo (s.engine.backlog ++ [newBacklogRow s row]) = toDo s.engine.backlog + row.count := by
    simp [toDo, newBacklogRow]
  have hexp : expandingCount (s.store.queue ++ (List.range row.count).map (newRecord s row feeder)) =
      expandingCount s.store.queue + row.count := by
    have hnew : ∀ r ∈ (List.range row.count).map (newRecord s row feeder), (r.state == .expanding) = true := by
      simp [newRecord]
    simp [expandingCount, List.filter_append, List.filter_eq_self.mpr hnew]
  refine ⟨⟨?_, ?_, ?_⟩, htodo⟩
  · simp only [reserveRow, setAdmission_engine, setEngine_engine, List.length_append, List.length_singleton]
    omega
  · simp only [reserveRow, setAdmission_engine, setEngine_engine, List.forall_mem_append, List.forall_mem_singleton]
    exact ⟨hrows, hcount⟩
  · exact hexp.trans (by rw [hbal]; exact htodo.symm)

theorem acceptRow_workLaw {row : DesignRow} {s : State} (h : WorkLaw s) (hcount : 1 ≤ row.count)
    (hroom : s.engine.backlog.length < 2) : WorkLaw (acceptRow row s) := by
  rw [workLaw_iff] at h ⊢
  obtain ⟨hbal, hnone⟩ := h
  obtain ⟨hres, htodo⟩ := reserveRow_balanced (feeder := (feederAt s.tables row.colour).getD 0) hbal hcount hroom
  have hinst : installed (acceptRow row s) = installed s := by simp [installed]
  have hinst' : installed (reserveRow row ((feederAt s.tables row.colour).getD 0) s) = installed s := by simp [installed]
  rw [hinst]
  unfold acceptRow startEngine
  rw [hinst']
  split
  · rename_i hzero
    obtain ⟨hdone, hsum⟩ := recordsDone_balanced row.count hres
    refine ⟨hdone, fun _ => backlog_nil_of_toDo hdone.2.1 ?_⟩
    rw [hsum, htodo, hnone hzero]
    simp [toDo]
  · exact ⟨hres, fun hz => absurd hz ‹_›⟩

/-! ## What keeps the work in hand -/

/-- The law speaks of the backlog, the queue and the installed hooks alone. -/
theorem workLaw_of_eq {s t : State} (h : WorkLaw s) (hbacklog : t.engine.backlog = s.engine.backlog)
    (hqueue : t.store.queue = s.store.queue) (hchains : t.selector.chains = s.selector.chains) : WorkLaw t := by
  simpa only [WorkLaw, installed, hbacklog, hqueue, hchains] using h

theorem recordDone_workLaw {s : State} (h : WorkLaw s) : WorkLaw (recordDone s) := by
  rw [workLaw_iff] at h ⊢
  obtain ⟨hbal, hnone⟩ := h
  refine ⟨(recordDone_balanced hbal).1, fun hz => ?_⟩
  have hb : s.engine.backlog = [] := hnone (by simpa [installed] using hz)
  simp [recordDone, hb]

theorem storeForward_workLaw {s : State} (h : WorkLaw s) : WorkLaw (storeForward s) := by
  rcases storeForward_queue s with hq | ⟨r, hr, hq⟩
  · exact workLaw_of_eq h (by simp) hq (by simp)
  · rw [workLaw_iff] at h ⊢
    obtain ⟨⟨hlen, hrows, hcount⟩, hnone⟩ := h
    have hexp : expandingCount s.store.queue = expandingCount (storeForward s).store.queue := by
      rw [hq]
      simp [expandingCount, hr]
    refine ⟨⟨by simpa using hlen, by simpa using hrows, ?_⟩, by simpa [installed] using hnone⟩
    simpa [← hexp] using hcount

/-- With nothing queued and nothing in hand the law holds. -/
theorem workLaw_of_empty {s : State} (hbacklog : s.engine.backlog = []) (hqueue : s.store.queue = []) : WorkLaw s := by
  simp [WorkLaw, hbacklog, hqueue]

theorem performCommand_workLaw (c : Command) {s : State} (h : WorkLaw s) : WorkLaw (performCommand c s).state := by
  cases c
  case discardQueue expected =>
    simp only [performCommand, cmdDiscard]
    split
    · exact h
    · exact workLaw_of_empty rfl rfl
  case reset =>
    exact workLaw_of_empty (by simp [performCommand, cmdReset, accept, resetNode, abandonWork])
      (by simp [performCommand, cmdReset, accept, resetNode, emptyStore])
  case clearHistory =>
    simp only [performCommand, cmdClearHistory]
    split <;> exact h
  all_goals
    exact workLaw_of_eq h (by simp [performCommand, cmdConfigureUnknown, refuse])
      (by simp [performCommand, cmdConfigureUnknown, refuse]) (by simp [performCommand, cmdConfigureUnknown, refuse])

/-! ## INIT and sizing (R135) -/

/-- An event never enters or leaves INIT (R145). -/
theorem raise_init_iff (k : EventKind) (s : State) : (raise k s).control.node = .init ↔ s.control.node = .init := by
  simp only [raise, setControl_control]
  split
  · rename_i h
    simp [h.2]
  · exact Iff.rfl

/-- Out of INIT, what INIT excludes does not matter. -/
theorem initLaw_of_not_init {s t : State} (h : InitLaw s) (hs : s.control.node ≠ .init) (ht : t.control.node ≠ .init)
    (hsizing : t.selector.sizing = s.selector.sizing) : InitLaw t := by
  refine ⟨?_, fun hi => absurd hi ht⟩
  rw [hsizing, ← h.1]
  exact iff_of_false ht hs

theorem initLaw_raise (k : EventKind) {s : State} (h : InitLaw s) : InitLaw (raise k s) :=
  ⟨(raise_init_iff k s).trans h.1, fun hi => h.2 ((raise_init_iff k s).mp hi)⟩

theorem weaving_iff (s : State) : weaving s = true ↔ s.control.node = .run ∨ s.control.node = .halt := by
  simp [weaving]

theorem not_init_of_weaving {s : State} (h : weaving s = true) : s.control.node ≠ .init := by
  rcases (weaving_iff s).mp h with h | h <;> simp [h]

theorem raise_not_init (k : EventKind) (s : State) (h : s.control.node ≠ .init) :
    (raise k s).control.node ≠ .init := mt (raise_init_iff k s).mp h

theorem storeForward_initLaw {s : State} (h : InitLaw s) (hw : weaving s = true) : InitLaw (storeForward s) :=
  initLaw_of_not_init h (not_init_of_weaving hw)
    (storeForward_keeps (P := fun s => s.control.node ≠ .init) (fun _ _ h => h) (fun _ _ h => h) raise_not_init
      (not_init_of_weaving hw))
    (by simp)

theorem storeReverse_initLaw {s : State} (h : InitLaw s) (hw : weaving s = true) : InitLaw (storeReverse s) :=
  initLaw_of_not_init h (not_init_of_weaving hw)
    (storeReverse_keeps (P := fun s => s.control.node ≠ .init) (fun _ _ h => h) (fun _ _ h => h) raise_not_init
      (not_init_of_weaving hw))
    (by simp)

theorem encoderLines_initLaw (a b z : Bool) {s : State} (h : InitLaw s) : InitLaw (encoderLines a b z s) :=
  encoderLines_keeps (P := InitLaw) (fun _ _ h => h) (fun _ _ h => h) (fun k _ h => initLaw_raise k h)
    (fun _ h hw => storeForward_initLaw h hw) (fun _ h hw => storeReverse_initLaw h hw) a b z s h

theorem acceptRow_initLaw {row : DesignRow} {s : State} (h : InitLaw s) (hn : s.control.node ≠ .init) :
    InitLaw (acceptRow row s) :=
  initLaw_of_not_init h hn
    (acceptRow_keeps (P := fun s => s.control.node ≠ .init) (fun _ _ h => h) (fun _ _ h => h) (fun _ _ h => h)
      raise_not_init row hn)
    (by simp)

/-- In INIT there is no work to complete. -/
theorem recordDone_initLaw {s : State} (h : InitLaw s) : InitLaw (recordDone s) := by
  by_cases hn : s.control.node = .init
  · obtain ⟨-, -, -, -, -, -, -, hbacklog⟩ := h.2 hn
    have : recordDone s = s := by simp [recordDone, hbacklog]
    rwa [this]
  · exact initLaw_of_not_init h hn
      (recordDone_keeps (P := fun s => s.control.node ≠ .init) (fun _ _ h => h) (fun _ _ h => h) raise_not_init hn)
      (by simp)

/-- In INIT no shift is in flight. -/
theorem endShift_initLaw (status : List (List StatusWord)) {s : State} (h : InitLaw s) : InitLaw (endShift status s) := by
  by_cases hn : s.control.node = .init
  · obtain ⟨-, hshift, -⟩ := h.2 hn
    have : endShift status s = s := by simp [endShift, hshift]
    rwa [this]
  · exact initLaw_of_not_init h hn
      (endShift_keeps (P := fun s => s.control.node ≠ .init) (fun _ _ _ h => h)
        (fun latch c k w _ h => takeWord_keeps (P := fun s => s.control.node ≠ .init) (fun _ _ h => h) raise_not_init
          (fun _ _ h => h) (fun _ _ h => h) latch c k w h)
        (fun _ h => startPending_keeps (P := fun s => s.control.node ≠ .init) (fun _ _ h => h) h) status hn)
      (by simp)

/-- In INIT there is no module. -/
theorem expireRest_initLaw (c : Fin 6) (k : Nat) {s : State} (h : InitLaw s) : InitLaw (expireRest c k s) := by
  by_cases hn : s.control.node = .init
  · obtain ⟨-, -, -, -, hmodules, -⟩ := h.2 hn
    have : expireRest c k s = s := by simp [expireRest, moduleRecord, hmodules]
    rwa [this]
  · exact initLaw_of_not_init h hn (by simpa using hn) (by simp)

theorem tick_initLaw {s : State} (h : InitLaw s) :
    InitLaw ((s.setTracker (tickTimer s.tracker)).setHealth (tickHealth s.health)) := by
  refine ⟨h.1, fun hn => ?_⟩
  obtain ⟨hchains, hshift, hpending, hmap, hmodules, hrest⟩ := h.2 hn
  refine ⟨hchains, hshift, hpending, hmap, ?_, hrest⟩
  simp only [setHealth_health, tickHealth, hmodules]
  ext i hi
  simp

theorem endFlush_initLaw {s : State} (h : InitLaw s) : InitLaw (endFlush s) := by
  unfold endFlush
  split
  · rename_i hflush
    refine ⟨?_, h.2⟩
    have hinit : s.control.node = .init := h.1.mpr (by simp [hflush])
    exact iff_of_true hinit (by simp)
  · exact h
  · exact h

theorem endMarkerPass_initLaw (c : Fin 6) (p : Option (Fin 4096)) {s : State} (h : InitLaw s) :
    InitLaw (endMarkerPass c p s) := by
  refine endMarkerPass_keeps (P := InitLaw) (fun v w s hw h => ⟨?_, h.2⟩) (fun _ _ h => initLaw_raise _ h)
    (fun v w s _ h => ⟨?_, ?_⟩) c p h
  · exact iff_of_true (h.1.mpr (by simp [hw])) (by simp)
  · simp [completeSizing, setNode]
  · simp [completeSizing, setNode]

/-- Out of INIT no marker pass is under way. -/
theorem endMarkerPass_of_not_init (c : Fin 6) (p : Option (Fin 4096)) {s : State} (h : InitLaw s)
    (hn : s.control.node ≠ .init) : endMarkerPass c p s = s := by
  have hdone : s.selector.sizing = .done := by
    by_contra hne
    exact hn (h.1.mpr hne)
  simp [endMarkerPass, hdone]

theorem initLaw_powerOn (s : State) : InitLaw (powerOnNode s) := by
  simp [InitLaw, powerOnNode, State.reset]

/-- Out of INIT a command other than RESET stays out of it and leaves the sizing alone. -/
theorem performCommand_not_init {c : Command} (hc : isReset c = false) {s : State} (hn : s.control.node ≠ .init) :
    (performCommand c s).state.control.node ≠ .init ∧
      (performCommand c s).state.selector.sizing = s.selector.sizing := by
  cases c
  case run =>
    simp only [performCommand, cmdRun]
    split
    · exact ⟨by simp [accept, setNode], rfl⟩
    · exact ⟨hn, rfl⟩
  case resume =>
    simp only [performCommand, cmdResume]
    split
    · exact ⟨by simp [accept, setNode], rfl⟩
    · exact ⟨hn, rfl⟩
  case idle =>
    simp only [performCommand, cmdIdle, accept]
    split
    · exact ⟨enterIdle_keeps (P := fun s => s.control.node ≠ .init) (fun _ _ h => h) (fun _ _ h => h) (fun _ _ h => h)
        (by simp [setNode]), by simp⟩
    · exact ⟨hn, rfl⟩
  case reset => cases hc
  all_goals exact ⟨by simpa [performCommand, cmdConfigureUnknown, refuse] using hn,
    by simp [performCommand, cmdConfigureUnknown, refuse]⟩

theorem resetNode_initLaw (s : State) : InitLaw (resetNode s) := by
  simp [InitLaw, resetNode, resetControl, resetHealth, beginSizing, abandonWork, emptyStore]

theorem performCommand_query_state {c : Command} (hc : isQuery c = true) (s : State) :
    (performCommand c s).state = s := by
  cases c <;> simp_all [isQuery, performCommand, refuse]

theorem performCommand_initLaw (c : Command) {s : State} (h : InitLaw s)
    (hinit : s.control.node = .init → (isQuery c || isReset c) = true) : InitLaw (performCommand c s).state := by
  cases hr : isReset c with
  | true =>
    cases c <;> cases hr
    exact resetNode_initLaw s
  | false =>
    by_cases hn : s.control.node = .init
    · have hq : isQuery c = true := by simpa [hr] using hinit hn
      rwa [performCommand_query_state hq]
    · obtain ⟨hn', hsizing⟩ := performCommand_not_init hr hn
      exact initLaw_of_not_init h hn hn' hsizing

/-- Settles O53: the rows in hand balance the EXPANDING records through acceptance and completion, and the time of sizing is
left only by the completion of its marker passes. -/
theorem workAndInitLawKept : Obligations.WorkAndInitLawKept := by
  unfold Obligations.WorkAndInitLawKept
  intro s t hwork hinit hstep
  refine step_keeps (P := fun s => WorkLaw s ∧ InitLaw s) (port := fun _ _ h => h) (pending := fun _ _ h => h)
    (event := fun k _ h => ⟨h.1, initLaw_raise k h.2⟩)
    (power := fun _ _ => ⟨workLaw_of_empty rfl rfl, initLaw_powerOn _⟩) (lines := ?lines)
    (lost := fun _ h _ => loseIndex_keeps (P := fun s => WorkLaw s ∧ InitLaw s) (fun _ _ h => h) (fun _ _ h => h)
      (fun k _ h => ⟨h.1, initLaw_raise k h.2⟩) _ h)
    (capture := fun _ h => h)
    (input := fun level _ h => inputZero_keeps (P := fun s => WorkLaw s ∧ InitLaw s) (fun _ _ h => h) level h)
    (inputs := fun n level _ h => inputLevel_keeps (P := fun s => WorkLaw s ∧ InitLaw s) (fun _ _ h => h)
      (fun k _ h => ⟨h.1, initLaw_raise k h.2⟩) n level h)
    (row := ?row) (command := fun c _ h hi => ⟨performCommand_workLaw c h.1, performCommand_initLaw c h.2 hi⟩)
    (flush := fun _ h => ⟨workLaw_of_eq h.1 (by simp) (by simp) (by simp), endFlush_initLaw h.2⟩) (marker := ?marker)
    (record := fun _ h => ⟨recordDone_workLaw h.1, recordDone_initLaw h.2⟩)
    (shift := fun status _ h =>
      ⟨workLaw_of_eq h.1 (by simp) (by simp) (by simp), endShift_initLaw status h.2⟩)
    (rest := fun c k _ h => ⟨workLaw_of_eq h.1 (by simp) (by simp) (by simp), expireRest_initLaw c k h.2⟩)
    (time := fun _ h => ⟨h.1, tick_initLaw h.2⟩) ⟨hwork, hinit⟩ hstep
  case lines =>
    exact fun a b z s hs => encoderLines_keeps (P := fun s => WorkLaw s ∧ InitLaw s) (fun _ _ h => h) (fun _ _ h => h)
      (fun k _ h => ⟨h.1, initLaw_raise k h.2⟩)
      (fun s h hw => ⟨storeForward_workLaw h.1, storeForward_initLaw h.2 hw⟩)
      (fun s h hw => ⟨workLaw_of_eq h.1 (by simp) (by simp) (by simp), storeReverse_initLaw h.2 hw⟩) a b z s hs
  case row =>
    intro body row s h hjudge hdecode
    obtain ⟨hn, -, hshape, -, -, -, -, -, -, hroom⟩ := judgeDesign_accepted hjudge hdecode
    exact ⟨acceptRow_workLaw h.1 (rowOk_count hshape) hroom, acceptRow_initLaw h.2 hn⟩
  case marker =>
    intro c p s h
    by_cases hn : s.control.node = .init
    · obtain ⟨-, -, -, -, -, hqueue, -, hbacklog⟩ := h.2.2 hn
      exact ⟨workLaw_of_empty (by simpa using hbacklog) (by simpa using hqueue), endMarkerPass_initLaw c p h.2⟩
    · rwa [endMarkerPass_of_not_init c p h.2 hn]

end Sys2Proof.Proofs.WorkAndInit

/-! PROOFS. The shift in flight and the pending one under every step (R108-R111). -/

namespace Sys2Proof.Proofs.ShiftLaws

open Sys2Proof Sys2Proof.Machine Sys2Proof.Proofs.Keeps

/-- With nothing pending the law holds. -/
theorem shiftLaw_of_none {x : Selector} (h : x.pending = none) : ShiftLaw x := by
  simp [ShiftLaw, h]

theorem shiftLaw_of_eq {x y : Selector} (h : ShiftLaw x) (hshift : y.shift = x.shift) (hpending : y.pending = x.pending) :
    ShiftLaw y := by
  simpa only [ShiftLaw, hshift, hpending] using h

/-- With no shift in flight nothing is pending. -/
theorem pending_none_of_idle {x : Selector} (h : ShiftLaw x) (hshift : x.shift = none) : x.pending = none := by
  by_contra hne
  exact h.1 hne hshift

theorem startShift_pending (kind : ShiftKind) (s : State) :
    (startShift kind s).selector.pending = s.selector.pending := by
  unfold startShift
  split <;> rfl

theorem requestPattern_shiftLaw {s : State} (h : ShiftLaw s.selector) : ShiftLaw (requestPattern s).selector := by
  rw [requestPattern_eq]
  simp only [setSelector_selector]
  cases hs : s.selector.shift with
  | none =>
    have hp := pending_none_of_idle h hs
    refine shiftLaw_of_none ?_
    simp only [requested, hs]
    split <;> exact hp
  | some sh => simp [requested, hs, ShiftLaw]

theorem idleEntryShift_shiftLaw {s : State} (h : ShiftLaw s.selector) : ShiftLaw (idleEntryShift s).selector := by
  unfold idleEntryShift
  split
  · rename_i hs
    exact shiftLaw_of_none ((startShift_pending _ _).trans (pending_none_of_idle h hs))
  · rename_i sh hs
    split
    · rename_i hk
      exact ⟨fun _ => by simp [setPendingShift, hs], fun _ => by simp [setPendingShift, hs, hk]⟩
    · exact shiftLaw_of_none rfl

theorem startPending_pending (s : State) : (startPending s).selector.pending = none := by
  unfold startPending
  split
  · assumption
  · exact startShift_pending _ _

theorem endShift_shiftLaw (status : List (List StatusWord)) {s : State} (h : ShiftLaw s.selector) :
    ShiftLaw (endShift status s).selector := by
  unfold endShift
  split
  · exact h
  · exact shiftLaw_of_none (startPending_pending _)

theorem performCommand_shiftLaw (c : Command) {s : State} (h : ShiftLaw s.selector) :
    ShiftLaw (performCommand c s).state.selector := by
  cases c
  case idle =>
    simp only [performCommand, cmdIdle, accept]
    split
    · exact idleEntryShift_shiftLaw h
    · exact h
  case reset =>
    refine shiftLaw_of_none ?_
    simp [performCommand, cmdReset, accept, resetNode, resetControl, resetHealth, beginSizing]
  all_goals simpa [performCommand, cmdConfigureUnknown, refuse] using h

/-- Settles O56: a shift becomes pending only where one is in flight, and the end of a shift leaves none pending. -/
theorem shiftLawKept : Obligations.ShiftLawKept := by
  unfold Obligations.ShiftLawKept
  intro s t hs hstep
  refine step_keeps (P := fun s => ShiftLaw s.selector) (port := fun _ _ h => h) (pending := fun _ _ h => h)
    (event := fun _ _ h => h) (power := fun _ _ => shiftLaw_of_none rfl) (lines := ?lines) (lost := fun _ h _ => h)
    (capture := fun _ h => h) (input := fun _ _ h => by simpa using h) (inputs := fun _ _ _ h => by simpa using h)
    (row := fun _ _ _ h _ _ => by simpa using h) (command := fun c _ h _ => performCommand_shiftLaw c h)
    (flush := fun _ h => shiftLaw_of_eq h (by simp) (by simp))
    (marker := fun _ _ _ h => shiftLaw_of_eq h (by simp) (by simp)) (record := fun _ h => by simpa using h)
    (shift := fun status _ h => endShift_shiftLaw status h) (rest := fun _ _ _ h => by simpa using h)
    (time := fun _ h => h) hs hstep
  case lines =>
    refine fun a b z s hs => encoderLines_keeps (P := fun s => ShiftLaw s.selector) (fun _ _ h => h) (fun _ _ h => h)
      (fun _ _ h => h) (fun s h _ => ?_) (fun s h _ => ?_) a b z s hs
    · refine requestPattern_shiftLaw (s := countWoven (forwardCase s)) ?_
      simpa using h
    · refine requestPattern_shiftLaw (s := reverseCase s) ?_
      simpa using h

end Sys2Proof.Proofs.ShiftLaws

/-! PROOFS. The Shaft Tracker and the Weft and Input Unit under every step (R59-R98): the ranges of the tracker, and the laws
of the pick events, the arrival window, the feeder output and the input flags. -/

namespace Sys2Proof.Proofs.TrackerLaws

open Sys2Proof Sys2Proof.Machine Sys2Proof.Proofs.Keeps

/-! ## The ranges of the tracker (R59-R72) -/

theorem targetAdvance_le (latency : Nat) (period : Option Nat) : targetAdvance latency period ≤ 255 := by
  cases period <;> simp only [targetAdvance] <;> omega

/-- A measured period lies in its range (R68). -/
theorem nextPeriod_range {measured : Nat} {period : Option Nat} (h : ∀ p ∈ period, 30000 ≤ p ∧ p ≤ 4000000) :
    ∀ p ∈ nextPeriod measured period, 30000 ≤ p ∧ p ≤ 4000000 := by
  unfold nextPeriod
  split
  · simp
  · have hm : 30000 ≤ measured ∧ measured ≤ 4000000 := by omega
    split
    · simpa using hm
    · rename_i t
      have either : ∀ c : Prop, [Decidable c] → ∀ p ∈ (if c then some measured else some t), 30000 ≤ p ∧ p ≤ 4000000 := by
        intro c _
        split
        · simpa using hm
        · simpa using h t rfl
      exact either _

/-- A new latency and a new period keep the law with the target computed from them (R69). -/
theorem trackerLaw_retarget {t : Tracker} (h : TrackerLaw t) {latency : Nat} {period : Option Nat}
    (hlatency : latency ≤ 10000) (hperiod : ∀ p ∈ period, 30000 ≤ p ∧ p ≤ 4000000) :
    TrackerLaw (retarget { t with latency := latency, period := period }) := by
  obtain ⟨hcounter, hnet, hvalid, htimer, hcapture, -, -, -, happlied, hselect, -, hrest⟩ := h
  exact ⟨hcounter, hnet, hvalid, htimer, hcapture, hperiod, rfl, targetAdvance_le _ _, happlied, hselect, hlatency, hrest⟩

/-- A step that leaves the tracker's course and keeps the applied advance in its range keeps the law. -/
theorem trackerLaw_course {t u : Tracker} (h : TrackerLaw t) (hcourse : SameCourse t u) (happlied : u.applied ≤ 255) :
    TrackerLaw u := by
  obtain ⟨hcounter, hnet, hvalid, htimer, hcapture, hperiod, htarget, hmax, -, hrest⟩ := h
  unfold SameCourse at hcourse
  rw [hcourse]
  exact ⟨hcounter, hnet, hvalid, htimer, hcapture, hperiod, htarget, hmax, happlied, hrest⟩

theorem trackerLaw_counter {t : Tracker} (h : TrackerLaw t) {counter : Nat} (hcounter : counter < 1024) :
    TrackerLaw { t with counter := counter } :=
  ⟨hcounter, h.2⟩

theorem trackerLaw_net {t : Tracker} (h : TrackerLaw t) {net : Int} (hnet : net.natAbs < 1100)
    (hvalid : t.angleValid = false → net = 0) : TrackerLaw { t with net := net } := by
  obtain ⟨hcounter, -, -, hrest⟩ := h
  exact ⟨hcounter, hnet, hvalid, hrest⟩

theorem slew_le {applied target : Nat} (ha : applied ≤ 255) (ht : target ≤ 255) : slew applied target ≤ 255 := by
  unfold slew
  split <;> omega

theorem advanceAfter_le (d : Direction) {t : Tracker} (ha : t.applied ≤ 255) (ht : t.target ≤ 255) :
    advanceAfter d t ≤ 255 := by
  cases d
  · exact slew_le ha ht
  · exact Nat.zero_le _

theorem noteAntipode_applied (t : Tracker) : (noteAntipode t).applied = t.applied := by
  rw [noteAntipode_fields]

theorem crossingEffects_applied (d : Direction) (s : State) :
    (crossingEffects d s).tracker.applied = s.tracker.applied := by
  unfold crossingEffects
  split
  · cases d <;> simp [armEvents, disarmEvents]
  · rfl

theorem offerEvents_applied (s : State) : (offerEvents s).tracker.applied = s.tracker.applied := by
  rw [offerEvents, offerArrivalClose_eq, offerArrivalOpen_eq, offerFeeder_eq]
  rfl

/-- The applied advance after a boundary examination: the old one, or the one a crossing moves it to (R70). -/
theorem examineStep_applied_le (d : Direction) {s : State} (ha : s.tracker.applied ≤ 255) (ht : s.tracker.target ≤ 255) :
    (examineStep d s).tracker.applied ≤ 255 := by
  unfold examineStep
  dsimp only
  split
  · have hcourse := crossingEffects_course d (markCrossing d (s.setTracker (noteAntipode s.tracker)))
    refine advanceAfter_le d ?_ ?_
    · rw [crossingEffects_applied]
      simpa [markCrossing, noteAntipode_applied] using ha
    · rw [hcourse.fields.2.2.2.2.2.2.2.2.2.2.1]
      simpa [markCrossing, noteAntipode_fields] using ht
  · simpa [noteAntipode_applied] using ha

theorem followStep_trackerLaw (d : Direction) {s : State} (h : TrackerLaw s.tracker) :
    TrackerLaw (followStep d s).tracker := by
  refine trackerLaw_course h (followStep_course d s) ?_
  obtain ⟨-, -, -, -, -, -, -, hmax, happlied, -⟩ := h
  cases d
  · rw [followStep_forward, offerEvents_applied]
    exact examineStep_applied_le _ happlied hmax
  · exact examineStep_applied_le _ happlied hmax

theorem countStep_lt (d : Direction) (c : Nat) : countStep d c < 1024 := by
  cases d
  · exact Nat.mod_lt _ (by omega)
  · rw [countStep_reverse]
    exact Nat.mod_lt _ (by omega)

theorem correctForward_trackerLaw (n : Nat) {s : State} (h : TrackerLaw s.tracker) :
    TrackerLaw (correctForward n s).tracker := by
  induction n generalizing s with
  | zero => exact h
  | succ n ih => exact ih (followStep_trackerLaw _ (trackerLaw_counter h (countStep_lt _ _)))

theorem impliedCounter_lt (d : Direction) : impliedCounter d < 1024 := by
  cases d <;> decide

theorem judgeIndex_trackerLaw (d : Direction) {s : State} (h : TrackerLaw s.tracker) :
    TrackerLaw (judgeIndex d s).tracker := by
  have hslip : ∀ p : Prop, [Decidable p] → TrackerLaw (if p then raise .slip s else s).tracker := by
    intro p _
    split <;> exact h
  unfold judgeIndex correctCounter
  dsimp only
  split
  · exact correctForward_trackerLaw _ (hslip _)
  · split
    · exact trackerLaw_counter (hslip _) (impliedCounter_lt d)
    · exact hslip _

/-- The capture and the index history keep the law: the timer's value is in the timer's range (R66). -/
theorem capturePass_law (d : Direction) {t : Tracker} (h : TrackerLaw t) : TrackerLaw (capturePass d t) := by
  have captured : ∀ {u : Tracker} {c : Nat}, TrackerLaw u → c < 16777216 →
      TrackerLaw { u with capture := some c, lastPass := some .forward, reverseSeen := false } := by
    intro u c hu hc
    obtain ⟨hcounter, hnet, hvalid, htimer, -, hrest⟩ := hu
    exact ⟨hcounter, hnet, hvalid, htimer, by simpa using hc, hrest⟩
  have hmeasured : TrackerLaw (measurePeriod t) := by
    have hparts := h
    obtain ⟨-, -, -, -, -, hperiod, -, -, -, -, hlatency, -⟩ := hparts
    unfold measurePeriod
    split
    · exact h
    · exact trackerLaw_retarget h hlatency (nextPeriod_range hperiod)
  obtain ⟨-, -, -, htimer, -⟩ := id h
  cases d
  · exact captured hmeasured htimer
  · exact h

theorem indexPass_trackerLaw (d : Direction) {s : State} (h : TrackerLaw s.tracker) :
    TrackerLaw (indexPass d s).tracker := by
  have hpassed : TrackerLaw (if s.tracker.angleValid then judgeIndex d s else revalidate d s).tracker := by
    split
    · exact judgeIndex_trackerLaw d h
    · obtain ⟨-, hnet, -, hrest⟩ := h
      exact ⟨impliedCounter_lt d, hnet, fun hv => absurd hv (by simp [revalidate]), hrest⟩
  exact capturePass_law d (trackerLaw_net hpassed (by decide) fun _ => rfl)

theorem noteReverse_law (d : Direction) {t : Tracker} (h : TrackerLaw t) : TrackerLaw (noteReverse d t) := by
  cases d <;> exact h

theorem loseIndex_trackerLaw {s : State} (h : TrackerLaw s.tracker) : TrackerLaw (loseIndex s).tracker := by
  obtain ⟨hcounter, -, -, hrest⟩ := h
  exact ⟨hcounter, show Int.natAbs 0 < 1100 by decide, fun _ => rfl, hrest⟩

theorem plainStep_trackerLaw (d : Direction) {s : State} (h : TrackerLaw s.tracker) :
    TrackerLaw (plainStep d s).tracker := by
  have hnoted := noteReverse_law d h
  unfold plainStep
  dsimp only
  split
  · rename_i hv
    split
    · exact loseIndex_trackerLaw hnoted
    · rename_i hn
      exact trackerLaw_net hnoted (by simpa [Config.indexLostAt] using hn) fun hf => by simp [hv] at hf
  · exact trackerLaw_net hnoted (by decide) fun _ => rfl

theorem encoderLines_trackerLaw (a b z : Bool) {s : State} (h : TrackerLaw s.tracker) :
    TrackerLaw (encoderLines a b z s).tracker := by
  cases hq : quadratureStep s.tracker.lines a b with
  | none =>
    simp only [encoderLines, hq]
    exact h
  | some d =>
    have hstepped : TrackerLaw (stepped d a b z s).tracker := by
      obtain ⟨-, hrest⟩ := h
      exact ⟨countStep_lt _ _, hrest⟩
    have hfollowed : TrackerLaw
        (if s.tracker.angleValid then followStep d (stepped d a b z s) else stepped d a b z s).tracker := by
      split
      · exact followStep_trackerLaw d hstepped
      · exact hstepped
    rw [encoderLines_step z hq]
    cases z
    · exact plainStep_trackerLaw d hfollowed
    · exact indexPass_trackerLaw d hfollowed

theorem clamp_range {lo hi : Nat} (h : lo ≤ hi) (v : Nat) : lo ≤ clamp lo hi v ∧ clamp lo hi v ≤ hi := by
  unfold clamp
  split
  · omega
  · split <;> omega

/-- A parameter taken lies in its range (R72, R83). -/
theorem setPlain_trackerLaw (p : Parameter) (v : Nat) {s : State} (h : TrackerLaw s.tracker) :
    TrackerLaw (setPlain p v s).state.tracker := by
  have hparts := h
  obtain ⟨hcounter, hnet, hvalid, htimer, hcapture, hperiod, htarget, hmax, happlied, hselect, hlatency, hmargin, hfeeder,
    hopen, horder, hclose⟩ := hparts
  cases p <;> simp only [setPlain]
  case selectAngle =>
    unfold setSelectAngle
    split
    · exact ⟨hcounter, hnet, hvalid, htimer, hcapture, hperiod, htarget, hmax, happlied, ‹_›, hlatency, hmargin, hfeeder,
        hopen, horder, hclose⟩
    · exact h
  case selectLatency => exact trackerLaw_retarget h (clamp_range (by omega) v).2 hperiod
  case reverseMargin =>
    exact ⟨hcounter, hnet, hvalid, htimer, hcapture, hperiod, htarget, hmax, happlied, hselect, hlatency,
      clamp_range (by omega) v, hfeeder, hopen, horder, hclose⟩
  case feederDistance =>
    unfold setFeederDistance
    split
    · rename_i hv
      exact ⟨hcounter, hnet, hvalid, htimer, hcapture, hperiod, htarget, hmax, happlied, hselect, hlatency, hmargin,
        of_decide_eq_true hv, hopen, horder, hclose⟩
    · exact h
  case arrivalOpenDistance =>
    unfold setOpenDistance
    split
    · rename_i hv
      exact ⟨hcounter, hnet, hvalid, htimer, hcapture, hperiod, htarget, hmax, happlied, hselect, hlatency, hmargin,
        hfeeder, (of_decide_eq_true hv.1).1, hv.2, hclose⟩
    · exact h
  case arrivalCloseDistance =>
    unfold setCloseDistance
    split
    · rename_i hv
      exact ⟨hcounter, hnet, hvalid, htimer, hcapture, hperiod, htarget, hmax, happlied, hselect, hlatency, hmargin,
        hfeeder, hopen, hv.2, (of_decide_eq_true hv.1).2⟩
    · exact h
  case designWidth =>
    unfold setDesignWidth
    split <;> exact h
  case weftOwner =>
    unfold setWeftOwner
    split
    · dsimp only [taken]
      split <;> exact h
    · exact h
    · exact h
  case arrivalEdge =>
    unfold setArrivalEdge
    split <;> exact h
  all_goals exact h

theorem setTarget_trackerLaw (x : Target) (v : Nat) {s : State} (h : TrackerLaw s.tracker) :
    TrackerLaw (setTarget x v s).state.tracker := by
  cases x <;> simp only [setTarget]
  case plain p => exact setPlain_trackerLaw p v h
  case enable n =>
    unfold setInputEnable
    split <;> exact h
  case edge n =>
    unfold setInputEdge
    split <;> exact h
  case level k =>
    unfold setActionLevel
    split
    · split <;> exact h
    · exact h

theorem resetTracker_law {s : State} (h : TrackerLaw s.tracker) : TrackerLaw (resetTracker s).tracker := by
  obtain ⟨hcounter, -, -, htimer, -, -, -, -, -, hselect, hlatency, hrest⟩ := h
  exact ⟨hcounter, show Int.natAbs 0 < 1100 by decide, fun _ => rfl, htimer, by simp [resetTracker], by simp [resetTracker], rfl,
    Nat.zero_le _, Nat.zero_le _, hselect, hlatency, hrest⟩

theorem performCommand_trackerLaw (c : Command) {s : State} (h : TrackerLaw s.tracker) :
    TrackerLaw (performCommand c s).state.tracker := by
  cases c
  case configure p i v =>
    rcases cmdConfigure_state p i v s with hc | ⟨x, -, -, hc⟩
    · rw [performCommand, hc]
      exact h
    · rw [performCommand, hc]
      exact setTarget_trackerLaw x _ h
  case idle =>
    simp only [performCommand, cmdIdle, accept]
    split
    · simpa [enterIdle, disarmEvents] using h
    · exact h
  case reset =>
    have hreset := resetTracker_law (s := resetAdmission (emptyStore (abandonWork (resetRowCounters (dropLoad s)))))
      (by simpa using h)
    simpa [performCommand, cmdReset, accept, resetNode] using hreset
  all_goals simpa [performCommand, cmdConfigureUnknown, refuse] using h

theorem tickTimer_law {t : Tracker} (h : TrackerLaw t) : TrackerLaw (tickTimer t) := by
  obtain ⟨hcounter, hnet, hvalid, -, hcapture, hrest⟩ := h
  refine ⟨hcounter, hnet, hvalid, Nat.mod_lt _ (by decide), ?_, hrest⟩
  unfold tickTimer
  dsimp only
  split
  · simp
  · exact hcapture

theorem trackerLaw_kept {s t : State} (hs : TrackerLaw s.tracker) (hstep : step s = .next t) : TrackerLaw t.tracker := by
  refine step_keeps (P := fun s => TrackerLaw s.tracker) (port := fun _ _ h => h) (pending := fun _ _ h => h)
    (event := fun _ _ h => h) (power := fun _ _ => show TrackerLaw { State.reset.tracker with lines := _ } from ?_)
    (lines := fun a b z _ h => encoderLines_trackerLaw a b z h) (lost := fun _ h _ => loseIndex_trackerLaw h)
    (capture := fun _ h => ?_) (input := fun _ _ h => by simpa using h) (inputs := fun _ _ _ h => by simpa using h)
    (row := fun _ _ _ h _ _ => by simpa using h) (command := fun c _ h _ => performCommand_trackerLaw c h)
    (flush := fun _ h => by simpa using h) (marker := fun _ _ _ h => by simpa using h)
    (record := fun _ h => by simpa using h) (shift := fun _ _ h => by simpa using h)
    (rest := fun _ _ _ h => by simpa using h) (time := fun _ h => tickTimer_law h) hs hstep
  · exact show TrackerLaw State.reset.tracker by decide
  · obtain ⟨hcounter, hnet, hvalid, htimer, -, hrest⟩ := h
    exact ⟨hcounter, hnet, hvalid, htimer, by simp [expireCapture], hrest⟩

end Sys2Proof.Proofs.TrackerLaws

/-! PROOFS. The pick events, the arrival window, the feeder output and the input flags under every step (R85-R98). -/

namespace Sys2Proof.Proofs.WeftLaws

open Sys2Proof Sys2Proof.Machine Sys2Proof.Proofs.Keeps Sys2Proof.Proofs.WorkAndInit Sys2Proof.Proofs.TrackerLaws

/-! ## A change of the encoder lines, with what each part of it may rely on -/

/-- The parts of an encoder step keep `P`, each in the states it acts in. A change of the tracker that is no crossing and no
firing keeps the armed events and a valid angle. -/
structure KeptByEncoder (P : State → Prop) : Prop where
  tracker : ∀ s x, x.armed = s.tracker.armed → (s.tracker.angleValid = true → x.angleValid = true) → P s →
    P (s.setTracker x)
  event : ∀ k s, P s → P (raise k s)
  crossing : ∀ d s, s.tracker.angleValid = true → weaving s = true → P s → P (crossingEffects d s)
  events : ∀ s, P s → P (offerEvents s)
  lost : ∀ s, P s → P (loseIndex s)

section
variable {P : State → Prop} (kept : KeptByEncoder P)
include kept

theorem takeCrossing_keeps (d : Direction) {s : State} (hv : s.tracker.angleValid = true) (hs : P s) :
    P (takeCrossing d s) := by
  have hmarked : P (markCrossing d s) := kept.tracker _ _ rfl id hs
  refine kept.tracker _ _ rfl id ?_
  by_cases hw : weaving (markCrossing d s) = true
  · exact kept.crossing d _ hv hw hmarked
  · unfold crossingEffects
    rw [if_neg hw]
    exact hmarked

theorem examineStep_keeps (d : Direction) {s : State} (hv : s.tracker.angleValid = true) (hs : P s) :
    P (examineStep d s) := by
  have hnoted : P (s.setTracker (noteAntipode s.tracker)) := by
    rw [noteAntipode_fields]
    exact kept.tracker _ _ rfl id hs
  unfold examineStep
  dsimp only
  split
  · exact takeCrossing_keeps kept d (by simpa [noteAntipode_fields] using hv) hnoted
  · exact hnoted

theorem followStep_keeps (d : Direction) {s : State} (hv : s.tracker.angleValid = true) (hs : P s) :
    P (followStep d s) := by
  cases d
  · exact kept.events _ (examineStep_keeps kept _ hv hs)
  · exact examineStep_keeps kept _ hv hs

omit kept in
theorem followStep_angleValid (d : Direction) (s : State) :
    (followStep d s).tracker.angleValid = s.tracker.angleValid :=
  (followStep_course d s).fields.2.2.2.1

theorem correctForward_keeps (n : Nat) {s : State} (hv : s.tracker.angleValid = true) (hs : P s) :
    P (correctForward n s) := by
  induction n generalizing s with
  | zero => exact hs
  | succ n ih =>
    have hmoved : P (setCounter (countStep .forward s.tracker.counter) s) := kept.tracker _ _ rfl id hs
    exact ih ((followStep_angleValid _ _).trans hv) (followStep_keeps kept _ hv hmoved)

theorem judgeIndex_keeps (d : Direction) {s : State} (hv : s.tracker.angleValid = true) (hs : P s) :
    P (judgeIndex d s) := by
  have corrected : ∀ dev u, u.tracker.angleValid = true → P u → P (correctCounter d dev u) := by
    intro dev u hu hP
    unfold correctCounter
    split
    · exact correctForward_keeps kept _ hu hP
    · split
      · exact kept.tracker _ _ rfl id hP
      · exact hP
  unfold judgeIndex
  dsimp only
  split
  · exact corrected _ _ hv (kept.event _ _ hs)
  · exact corrected _ _ hv hs

omit kept in
theorem measurePeriod_armed (t : Tracker) :
    (measurePeriod t).armed = t.armed ∧ (measurePeriod t).angleValid = t.angleValid := by
  cases h : dueCapture t with
  | none => simp only [measurePeriod, h, and_self]
  | some c => simp only [measurePeriod, h, retarget, and_self]

omit kept in
theorem capturePass_armed (d : Direction) (t : Tracker) :
    (capturePass d t).armed = t.armed ∧ (capturePass d t).angleValid = t.angleValid := by
  cases d
  · exact measurePeriod_armed t
  · exact ⟨rfl, rfl⟩

theorem indexPass_keeps (d : Direction) {s : State} (hs : P s) : P (indexPass d s) := by
  have hpassed : P (if s.tracker.angleValid then judgeIndex d s else revalidate d s) := by
    split
    · exact judgeIndex_keeps kept d ‹_› hs
    · exact kept.tracker _ _ rfl (fun _ => rfl) hs
  have captured : ∀ u : State, P u → P (u.setTracker (capturePass d { u.tracker with net := 0 })) := by
    intro u hu
    obtain ⟨harmed, hvalid⟩ := capturePass_armed d { u.tracker with net := 0 }
    exact kept.tracker u _ harmed (fun hv => hvalid.trans hv) hu
  exact captured _ hpassed

omit kept in
theorem noteReverse_armed (d : Direction) (t : Tracker) :
    (noteReverse d t).armed = t.armed ∧ (noteReverse d t).angleValid = t.angleValid := by
  cases d <;> exact ⟨rfl, rfl⟩

theorem plainStep_keeps (d : Direction) {s : State} (hs : P s) : P (plainStep d s) := by
  obtain ⟨harmed, hvalid⟩ := noteReverse_armed d s.tracker
  unfold plainStep
  dsimp only
  split
  · split
    · exact kept.lost _ (kept.tracker _ _ harmed (fun hv => hvalid.trans hv) hs)
    · exact kept.tracker _ _ harmed (fun hv => hvalid.trans hv) hs
  · exact kept.tracker _ _ harmed (fun hv => hvalid.trans hv) hs

theorem encoderLines_keeps_valid (a b z : Bool) {s : State} (hs : P s) : P (encoderLines a b z s) := by
  cases hq : quadratureStep s.tracker.lines a b with
  | none =>
    simp only [encoderLines, hq]
    exact kept.tracker _ _ rfl id hs
  | some d =>
    have hstepped : P (stepped d a b z s) := kept.tracker _ _ rfl id hs
    have hfollowed : P (if s.tracker.angleValid then followStep d (stepped d a b z s) else stepped d a b z s) := by
      split
      · exact followStep_keeps kept d ‹_› hstepped
      · exact hstepped
    rw [encoderLines_step z hq]
    cases z
    · exact plainStep_keeps kept d hfollowed
    · exact indexPass_keeps kept d hfollowed

end

/-! ## What the laws of the weft unit speak of -/

/-- A raise moves the node between RUN and HALT at most (R145). -/
theorem weaving_raise (k : EventKind) (s : State) : weaving (raise k s) = weaving s := by
  simp only [weaving, raise, setControl_control]
  split
  · rename_i h
    simp [h.2]
  · rfl

theorem weftLaw_raise (k : EventKind) {s : State} (h : WeftLaw s) : WeftLaw (raise k s) := by
  simpa [WeftLaw, weaving_raise] using h

/-- The law speaks of the armed events, the validity of the angle, the weft unit and whether the node weaves. -/
theorem weftLaw_of_eq {s t : State} (h : WeftLaw s) (harmed : t.tracker.armed = s.tracker.armed)
    (hvalid : s.tracker.angleValid = true → t.tracker.angleValid = true) (hweft : t.weft = s.weft)
    (hweaving : weaving t = weaving s) : WeftLaw t := by
  obtain ⟨harm, hwin, hmark, hfeeder, hout⟩ := h
  simp only [WeftLaw, anyArmed, harmed, hweft, hweaving] at *
  exact ⟨fun ha => ⟨(harm ha).1, hvalid (harm ha).2⟩, fun hw => ⟨(hwin hw).1, hvalid (hwin hw).2.1, (hwin hw).2.2⟩, hmark,
    hfeeder, hout⟩

/-- With nothing armed, the window closed and the feeder output 0, the node may be in any state. -/
theorem weftLaw_of_quiet {s : State} (harmed : ¬anyArmed s.tracker) (hwindow : s.weft.window = false)
    (hmark : s.weft.mark = false) (hfeeder : s.weft.feeder = 0) (hout : s.weft.outside ≤ 65535) : WeftLaw s :=
  ⟨fun ha => absurd ha harmed, by simp [hwindow], by simp [hmark], by simp [hfeeder], hout⟩

/-- Out of RUN and HALT nothing is armed, the window is closed and the feeder output is 0. -/
theorem quiet_of_not_weaving {s : State} (h : WeftLaw s) (hw : weaving s = false) :
    ¬anyArmed s.tracker ∧ s.weft.window = false ∧ s.weft.mark = false ∧ s.weft.feeder = 0 := by
  obtain ⟨harm, hwin, hmark, hfeeder, -⟩ := h
  have hno : ∀ {p : Prop}, (p → weaving s = true) → ¬p := fun hp h1 => by simp [hw] at hp; exact hp h1
  have hwindow : s.weft.window = false := by simpa using hno fun h => (hwin h).1
  refine ⟨hno fun h => (harm h).1, hwindow, ?_, by simpa using hno fun h => (hfeeder h).1⟩
  by_contra hm
  simp [hmark (by simpa using hm)] at hwindow

/-! ## Crossings and pick events -/

/-- The weft unit and the input flags, as a crossing and the firing of pick events keep them. -/
def UnitLaw (s : State) : Prop := WeftLaw s ∧ InputLaw s.weft

theorem unitLaw_raise (k : EventKind) {s : State} (h : UnitLaw s) : UnitLaw (raise k s) :=
  ⟨weftLaw_raise k h.1, h.2⟩

theorem storeForward_unitLaw {s : State} (h : UnitLaw s) : UnitLaw (storeForward s) :=
  storeForward_keeps (P := UnitLaw) (fun _ _ h => h) (fun _ _ h => h) (fun _ _ h => unitLaw_raise _ h) h

theorem storeReverse_unitLaw {s : State} (h : UnitLaw s) : UnitLaw (storeReverse s) :=
  storeReverse_keeps (P := UnitLaw) (fun _ _ h => h) (fun _ _ h => h) (fun _ _ h => unitLaw_raise _ h) h

theorem closeWindow_disarm_unitLaw {s : State} (h : UnitLaw s) : UnitLaw (closeWindow (disarmEvents s)) := by
  obtain ⟨⟨-, -, -, hfeeder, hout⟩, hinput⟩ := h
  exact ⟨⟨by simp [anyArmed, closeWindow, disarmEvents], by simp [closeWindow], by simp [closeWindow], hfeeder, hout⟩,
    hinput⟩

theorem crossingEffects_unitLaw (d : Direction) {s : State} (hv : s.tracker.angleValid = true) (hw : weaving s = true)
    (h : UnitLaw s) : UnitLaw (crossingEffects d s) := by
  have hweaving : ∀ {t : State}, t.tracker = s.tracker → WeftLaw t → weaving t = true → WeftLaw (armEvents t) := by
    intro t ht hlaw hwt
    obtain ⟨-, hrest⟩ := hlaw
    exact ⟨fun _ => ⟨hwt, by simpa [armEvents, ht] using hv⟩, hrest⟩
  unfold crossingEffects
  rw [if_pos hw]
  cases d
  · have hstored := storeForward_unitLaw h
    refine ⟨hweaving (by simp) hstored.1 ?_, hstored.2⟩
    exact storeForward_keeps (P := fun s => weaving s = true) (fun _ _ h => h) (fun _ _ h => h)
      (fun k s h => (weaving_raise k s).trans h) hw
  · exact closeWindow_disarm_unitLaw (storeReverse_unitLaw h)

theorem offerFeeder_unitLaw {s : State} (h : UnitLaw s) : UnitLaw (offerFeeder s) := by
  unfold offerFeeder
  split
  · rename_i hfires
    obtain ⟨⟨harm, hwin, hmark, hfeeder, hout⟩, hinput⟩ := h
    have hw := (harm (.inl hfires.1)).1
    have hkept : ∀ x, anyArmed { s.tracker with armed := { s.tracker.armed with feeder := false } } → x = s →
        weaving x = true ∧ x.tracker.angleValid = true := by
      rintro x hany rfl
      exact harm (hany.elim (fun hf => nomatch hf) .inr)
    unfold fireFeeder
    split
    · exact ⟨⟨fun hany => hkept s hany rfl, hwin, hmark, fun _ => ⟨hw, ‹_›⟩, hout⟩, hinput⟩
    · exact ⟨⟨fun hany => hkept s hany rfl, hwin, hmark, hfeeder, hout⟩, hinput⟩
  · exact h

theorem offerArrivalOpen_unitLaw {s : State} (h : UnitLaw s) : UnitLaw (offerArrivalOpen s) := by
  unfold offerArrivalOpen
  split
  · rename_i hfires
    obtain ⟨⟨harm, hwin, hmark, hfeeder, hout⟩, hinput⟩ := h
    have hany : anyArmed s.tracker := .inr (.inl hfires.1)
    unfold fireArrivalOpen
    split
    · exact ⟨⟨fun _ => harm hany, fun _ => ⟨(harm hany).1, (harm hany).2, ‹_›⟩, fun _ => rfl, hfeeder, hout⟩, hinput⟩
    · exact ⟨⟨fun _ => harm hany, hwin, hmark, hfeeder, hout⟩, hinput⟩
  · exact h

theorem offerArrivalClose_unitLaw {s : State} (h : UnitLaw s) : UnitLaw (offerArrivalClose s) := by
  unfold offerArrivalClose
  split
  · rename_i hfires
    obtain ⟨⟨harm, hwin, hmark, hfeeder, hout⟩, hinput⟩ := h
    have hdisarmed : UnitLaw
        (s.setTracker { s.tracker with armed := { s.tracker.armed with arrivalClose := false } }) :=
      ⟨⟨fun _ => harm (.inr (.inr hfires.1)), hwin, hmark, hfeeder, hout⟩, hinput⟩
    have hclosed : ∀ {t : State}, UnitLaw t → UnitLaw (closeWindow t) := by
      intro t ht
      obtain ⟨⟨harm, -, -, hrest⟩, hinput⟩ := ht
      exact ⟨⟨harm, by simp [closeWindow], by simp [closeWindow], hrest⟩, hinput⟩
    unfold fireArrivalClose
    split
    · refine hclosed ?_
      split
      · exact unitLaw_raise _ hdisarmed
      · exact hdisarmed
    · exact hdisarmed
  · exact h

theorem loseIndex_unitLaw {s : State} (h : UnitLaw s) : UnitLaw (loseIndex s) := by
  obtain ⟨⟨-, -, -, hfeeder, hout⟩, hinput⟩ := h
  refine ⟨⟨by simp [anyArmed, loseIndex, closeWindow, disarmEvents], by simp [loseIndex, closeWindow],
    by simp [loseIndex, closeWindow], fun hf => ⟨?_, (hfeeder hf).2⟩, hout⟩, hinput⟩
  exact (weaving_raise .indexLost _).trans (hfeeder hf).1

theorem encoderLines_unitLaw (a b z : Bool) {s : State} (h : UnitLaw s) : UnitLaw (encoderLines a b z s) :=
  encoderLines_keeps_valid (P := UnitLaw)
    { tracker := fun _ _ harmed hvalid h => ⟨weftLaw_of_eq h.1 harmed hvalid rfl rfl, h.2⟩
      event := fun _ _ h => unitLaw_raise _ h
      crossing := fun d _ hv hw h => crossingEffects_unitLaw d hv hw h
      events := fun _ h => offerArrivalClose_unitLaw (offerArrivalOpen_unitLaw (offerFeeder_unitLaw h))
      lost := fun _ h => loseIndex_unitLaw h }
    a b z h

/-! ## The loom inputs (R90-R97) -/

theorem inputZero_unitLaw (level : Bool) {s : State} (h : UnitLaw s) : UnitLaw (inputZero level s) := by
  obtain ⟨⟨harm, hwin, hmark, hfeeder, hout⟩, hinput⟩ := h
  have hseen : UnitLaw (setInputLevel 0 level s) := ⟨⟨harm, hwin, hmark, hfeeder, hout⟩, hinput⟩
  unfold inputZero arrivalEdge
  dsimp only
  split
  · split
    · split
      · rename_i hopen
        exact ⟨⟨harm, hwin, fun _ => hopen, hfeeder, hout⟩, hinput⟩
      · exact ⟨⟨harm, hwin, hmark, hfeeder, Nat.min_le_right _ _⟩, hinput⟩
    · exact hseen
  · exact hseen

theorem inputLevel_unitLaw (n : Fin 7) (level : Bool) {s : State} (h : UnitLaw s) : UnitLaw (inputLevel n level s) := by
  obtain ⟨hweft, hinput⟩ := h
  unfold inputLevel
  dsimp only
  split
  · rename_i hedge
    refine unitLaw_raise _ ⟨hweft, fun m hm => ?_⟩
    by_cases hmn : m = n
    · rw [hmn]
      exact hedge.2.1
    · have hne : n.val ≠ m.val := fun hv => hmn (Fin.ext hv.symm)
      refine hinput m ?_
      simpa [setInputLevel, Vector.getElem_set, hne] using hm
  · exact ⟨hweft, hinput⟩

/-! ## Commands -/

theorem setPlain_unitLaw (p : Parameter) (v : Nat) {s : State} (h : UnitLaw s) : UnitLaw (setPlain p v s).state := by
  have hparts := h
  obtain ⟨⟨harm, hwin, hmark, hfeeder, hout⟩, hinput⟩ := hparts
  cases p <;> simp only [setPlain]
  case weftOwner =>
    unfold setWeftOwner
    split
    · dsimp only [taken]
      split
      · exact ⟨⟨harm, by simp [setFeeder, closeWindow], by simp [setFeeder, closeWindow], by simp [setFeeder], hout⟩, hinput⟩
      · rename_i hno
        have howner : s.weft.owner = false := by simpa using hno
        refine ⟨⟨harm, fun hw => ?_, hmark, fun hf => ?_, hout⟩, hinput⟩
        · simp [howner] at hwin
          simp [hwin] at hw
        · simp [howner] at hfeeder
          exact absurd hfeeder hf
    · exact ⟨⟨harm, fun hw => ⟨(hwin hw).1, (hwin hw).2.1, rfl⟩, hmark, fun hf => ⟨(hfeeder hf).1, rfl⟩, hout⟩, hinput⟩
    · exact h
  case arrivalEdge =>
    unfold setArrivalEdge
    split <;> exact h
  case designWidth =>
    unfold setDesignWidth
    split <;> exact h
  case selectAngle =>
    unfold setSelectAngle
    split <;> exact h
  case feederDistance =>
    unfold setFeederDistance
    split <;> exact h
  case arrivalOpenDistance =>
    unfold setOpenDistance
    split <;> exact h
  case arrivalCloseDistance =>
    unfold setCloseDistance
    split <;> exact h
  all_goals exact h

theorem setInputEnable_unitLaw (n : Fin 7) (v : Nat) {s : State} (h : UnitLaw s) :
    UnitLaw (setInputEnable n v s).state := by
  obtain ⟨hweft, hinput⟩ := h
  unfold setInputEnable
  split
  · refine ⟨hweft, fun m hm => ?_⟩
    by_cases hmn : n.val = m.val
    · simp [taken, hmn] at hm
    · have := hinput m (by simpa [taken, Vector.getElem_set, hmn] using hm)
      simpa [taken, Vector.getElem_set, hmn] using this
  · refine ⟨hweft, fun m hm => ?_⟩
    have := hinput m hm
    simp only [taken, setWeft_weft, Fin.getElem_fin, Vector.getElem_set]
    split
    · rfl
    · exact this
  · exact ⟨hweft, hinput⟩

theorem setTarget_unitLaw (x : Target) (v : Nat) {s : State} (h : UnitLaw s) : UnitLaw (setTarget x v s).state := by
  cases x <;> simp only [setTarget]
  case plain p => exact setPlain_unitLaw p v h
  case enable n => exact setInputEnable_unitLaw n v h
  case edge n =>
    unfold setInputEdge
    split <;> exact h
  case level k =>
    unfold setActionLevel
    split
    · split <;> exact h
    · exact h

/-- A node put into another state with nothing armed, the window closed and the feeder at 0. -/
theorem setNode_unitLaw (n : NodeState) {s : State} (h : UnitLaw s) (hw : weaving s = false) : UnitLaw (setNode n s) := by
  obtain ⟨harmed, hwindow, hmark, hfeeder⟩ := quiet_of_not_weaving h.1 hw
  obtain ⟨⟨-, -, -, -, hout⟩, hinput⟩ := h
  exact ⟨weftLaw_of_quiet harmed hwindow hmark hfeeder hout, hinput⟩

theorem enterIdle_unitLaw {s : State} (h : UnitLaw s) : UnitLaw (enterIdle s) := by
  obtain ⟨⟨-, -, -, -, hout⟩, hinput⟩ := h
  have hweft : (enterIdle s).weft = { s.weft with window := false, mark := false, feeder := 0 } := by
    simp [enterIdle, setFeeder, closeWindow]
  refine ⟨weftLaw_of_quiet ?_ ?_ ?_ ?_ ?_, ?_⟩
  · simp [enterIdle, disarmEvents]
  all_goals rw [hweft]
  · exact hout
  · exact hinput

theorem resetNode_unitLaw (s : State) : UnitLaw (resetNode s) := by
  refine ⟨weftLaw_of_quiet ?_ ?_ ?_ ?_ ?_, fun n hn => ?_⟩
  · simp [resetNode, resetTracker, resetControl, resetHealth, beginSizing]
  all_goals simp [resetNode, resetWeft, resetControl, resetHealth, beginSizing] at *

/-- What does not raise, arm, fire or move the node keeps the laws. -/
theorem unitLaw_of_eq {s t : State} (h : UnitLaw s) (htracker : t.tracker = s.tracker) (hweft : t.weft = s.weft)
    (hnode : t.control.node = s.control.node) : UnitLaw t :=
  ⟨weftLaw_of_eq h.1 (by rw [htracker]) (by rw [htracker]; exact id) hweft (by simp [weaving, hnode]),
    by rw [hweft]; exact h.2⟩

theorem unitLaw_outside {s : State} {n : Nat} (h : UnitLaw s) (hn : n ≤ 65535) :
    UnitLaw (s.setWeft { s.weft with outside := n }) := by
  obtain ⟨⟨harm, hwin, hmark, hfeeder, -⟩, hinput⟩ := h
  exact ⟨⟨harm, hwin, hmark, hfeeder, hn⟩, hinput⟩

theorem clearEvents_unitLaw (kinds : List Nat) {s : State} (h : UnitLaw s) : UnitLaw (clearEvents kinds s) := by
  have hcleared : UnitLaw (s.setControl { s.control with events := clearNamedEvents kinds s.control.events }) :=
    unitLaw_of_eq h (by simp) (by simp) (by simp)
  unfold clearEvents
  dsimp only
  split
  · exact unitLaw_outside hcleared (Nat.zero_le _)
  · exact hcleared

theorem performCommand_unitLaw (c : Command) {s : State} (h : UnitLaw s) : UnitLaw (performCommand c s).state := by
  cases c
  case configure p i v =>
    rcases cmdConfigure_state p i v s with hc | ⟨x, -, -, hc⟩
    · rw [performCommand, hc]
      exact h
    · rw [performCommand, hc]
      exact setTarget_unitLaw x _ h
  case run =>
    simp only [performCommand, cmdRun]
    split
    · rename_i hidle
      exact setNode_unitLaw .run h (by simp [weaving, hidle.1])
    · exact h
  case resume =>
    simp only [performCommand, cmdResume]
    split
    · rename_i hhalt
      exact ⟨weftLaw_of_eq h.1 rfl id rfl (by simp [weaving, accept, setNode, hhalt.1]), h.2⟩
    · exact h
  case idle =>
    simp only [performCommand, cmdIdle, accept]
    split
    · exact enterIdle_unitLaw h
    · exact h
  case clearEvents kinds =>
    simp only [performCommand, cmdClearEvents]
    split
    · exact clearEvents_unitLaw _ h
    · exact h
  case reset => exact resetNode_unitLaw s
  all_goals
    exact unitLaw_of_eq h (by simp [performCommand, cmdConfigureUnknown, refuse])
      (by simp [performCommand, cmdConfigureUnknown, refuse]) (by simp [performCommand, cmdConfigureUnknown, refuse])

/-! ## The whole -/

theorem endShift_unitLaw (status : List (List StatusWord)) {s : State} (h : UnitLaw s) : UnitLaw (endShift status s) :=
  endShift_keeps (P := UnitLaw) (fun _ _ _ h => h)
    (fun latch c k w _ h => takeWord_keeps (P := UnitLaw) (fun _ _ h => h) (fun _ _ h => unitLaw_raise _ h)
      (fun _ _ h => h) (fun _ _ h => h) latch c k w h)
    (fun _ h => startPending_keeps (P := UnitLaw) (fun _ _ h => h) h) status h

/-- Sizing completes in INIT, where nothing is armed. -/
theorem endMarkerPass_unitLaw (c : Fin 6) (p : Option (Fin 4096)) {s : State} (h : UnitLaw s ∧ InitLaw s) :
    UnitLaw (endMarkerPass c p s) := by
  have hkeep := endMarkerPass_keeps (P := fun s => UnitLaw s ∧ (s.control.node = .init ∨ s.selector.sizing = .done))
    (fun v w s hw h => ⟨h.1, h.2.imp id fun hd => by simp [hw] at hd⟩)
    (fun k s h => ⟨unitLaw_raise k h.1, h.2.imp (raise_init_iff k s).mpr id⟩)
    (fun v w s hw h => ⟨?_, .inr rfl⟩) c p (s := s) ⟨h.1, ?_⟩
  · exact hkeep.1
  · have hinit : s.control.node = .init := h.2.resolve_right (by simp [hw])
    exact setNode_unitLaw .idle (unitLaw_of_eq h.1 rfl rfl rfl) (by simp [weaving, hinit])
  · by_cases hn : s.control.node = .init
    · exact .inl hn
    · exact .inr (by_contra fun hne => hn (h.2.1.mpr hne))

theorem weftLaws_kept {s t : State} (h : UnitLaw s ∧ InitLaw s) (hstep : step s = .next t) :
    UnitLaw t ∧ InitLaw t := by
  refine step_keeps (P := fun s => UnitLaw s ∧ InitLaw s) (port := fun _ _ h => h) (pending := fun _ _ h => h)
    (event := fun k _ h => ⟨unitLaw_raise k h.1, initLaw_raise k h.2⟩)
    (power := fun _ _ => ⟨⟨weftLaw_of_quiet ?_ rfl rfl rfl (Nat.zero_le _), ?_⟩, initLaw_powerOn _⟩)
    (lines := fun a b z _ h => ⟨encoderLines_unitLaw a b z h.1, encoderLines_initLaw a b z h.2⟩)
    (lost := fun _ h _ => ⟨loseIndex_unitLaw h.1, loseIndex_keeps (P := InitLaw) (fun _ _ h => h) (fun _ _ h => h)
      (fun k _ h => initLaw_raise k h) _ h.2⟩)
    (capture := fun _ h => h)
    (input := fun level _ h => ⟨inputZero_unitLaw level h.1, inputZero_keeps (P := InitLaw) (fun _ _ h => h) level h.2⟩)
    (inputs := fun n level _ h => ⟨inputLevel_unitLaw n level h.1,
      inputLevel_keeps (P := InitLaw) (fun _ _ h => h) (fun k _ h => initLaw_raise k h) n level h.2⟩)
    (row := fun _ row _ h hj hd => ⟨acceptRow_keeps (P := UnitLaw) (fun _ _ h => h) (fun _ _ h => h) (fun _ _ h => h)
      (fun _ _ h => unitLaw_raise _ h) row h.1, acceptRow_initLaw h.2 (judgeDesign_accepted hj hd).1⟩)
    (command := fun c _ h hi => ⟨performCommand_unitLaw c h.1, performCommand_initLaw c h.2 hi⟩)
    (flush := fun _ h => ⟨unitLaw_of_eq h.1 (by simp) (by simp) (by simp), endFlush_initLaw h.2⟩)
    (marker := fun c p _ h => ⟨endMarkerPass_unitLaw c p h, endMarkerPass_initLaw c p h.2⟩)
    (record := fun _ h => ⟨recordDone_keeps (P := UnitLaw) (fun _ _ h => h) (fun _ _ h => h)
      (fun _ _ h => unitLaw_raise _ h) h.1, recordDone_initLaw h.2⟩)
    (shift := fun status _ h => ⟨endShift_unitLaw status h.1, endShift_initLaw status h.2⟩)
    (rest := fun c k _ h => ⟨unitLaw_of_eq h.1 (by simp) (by simp) (by simp), expireRest_initLaw c k h.2⟩)
    (time := fun _ h => ⟨⟨weftLaw_of_eq h.1.1 rfl id rfl rfl, h.1.2⟩, tick_initLaw h.2⟩) h hstep
  · exact show ¬anyArmed State.reset.tracker by decide
  · exact show InputLaw State.reset.weft by decide

/-- Settles O57: the ranges by the parts of a step of the encoder, the weft unit with what each of them may rely on. -/
theorem trackerAndWeftLawKept : Obligations.TrackerAndWeftLawKept := by
  unfold Obligations.TrackerAndWeftLawKept
  refine ⟨fun s t hs hstep => trackerLaw_kept hs hstep, fun s t hweft hinput hinit hstep => ?_⟩
  exact (weftLaws_kept ⟨⟨hweft, hinput⟩, hinit⟩ hstep).1

end Sys2Proof.Proofs.WeftLaws

/-! PROOFS. The Hook Fault Map and the module records under every step (R118-R133). -/

namespace Sys2Proof.Proofs.HealthLaws

open Sys2Proof Sys2Proof.Machine Sys2Proof.Proofs.Keeps Sys2Proof.Proofs.WorkAndInit

/-- The laws of the Hook Fault Map and of the module records. -/
def HealthLaw (s : State) : Prop := FaultMapLaw s ∧ ModuleLaw s

/-- The laws speak of the map, the overflow count, the records and the chain sizes alone. -/
theorem healthLaw_of_eq {s t : State} (h : HealthLaw s) (hmap : t.health.faultMap = s.health.faultMap)
    (hover : t.health.overflow = s.health.overflow) (hmodules : t.health.modules = s.health.modules)
    (hchains : t.selector.chains = s.selector.chains) : HealthLaw t := by
  simpa only [HealthLaw, FaultMapLaw, ModuleLaw, installed, hmap, hover, hmodules, hchains] using h

theorem healthLaw_raise (k : EventKind) {s : State} (h : HealthLaw s) : HealthLaw (raise k s) := h

/-! ## The Hook Fault Map (R118, R119) -/

theorem mem_insertFault {e x : FaultEntry} {m : List FaultEntry} : x ∈ insertFault e m ↔ x = e ∨ x ∈ m := by
  induction m with
  | nil => simp [insertFault]
  | cons y ys ih =>
    unfold insertFault
    split
    · simp
    · rw [List.mem_cons, ih, List.mem_cons]
      tauto

theorem insertFault_length (e : FaultEntry) (m : List FaultEntry) : (insertFault e m).length = m.length + 1 := by
  induction m with
  | nil => rfl
  | cons y ys ih =>
    unfold insertFault
    split <;> simp [*]

theorem not_listed_iff {m : List FaultEntry} {h : Nat} : isListed m h = false ↔ ∀ x ∈ m, x.hook ≠ h := by
  simp [isListed]

/-- An unlisted hook's entry goes to its place in hook order (R119). -/
theorem insertFault_sorted {e : FaultEntry} {m : List FaultEntry} (hm : m.Pairwise fun a b => a.hook < b.hook)
    (he : isListed m e.hook = false) : (insertFault e m).Pairwise fun a b => a.hook < b.hook := by
  rw [not_listed_iff] at he
  induction m with
  | nil => simp [insertFault]
  | cons y ys ih =>
    obtain ⟨hy, hys⟩ := List.pairwise_cons.mp hm
    obtain ⟨hne, hne'⟩ := List.forall_mem_cons.mp he
    unfold insertFault
    split
    · rename_i hlt
      refine List.pairwise_cons.mpr ⟨fun x hx => ?_, hm⟩
      rcases List.mem_cons.mp hx with rfl | hx
      · exact hlt
      · exact hlt.trans (hy x hx)
    · refine List.pairwise_cons.mpr ⟨fun x hx => ?_, ih hys hne'⟩
      rcases mem_insertFault.mp hx with rfl | hx
      · omega
      · exact hy x hx

/-- Listing an installed hook that is not listed, while the map has room. -/
theorem listHook_healthLaw {e : FaultEntry} {s : State} (h : HealthLaw s) (he : isListed s.health.faultMap e.hook = false)
    (hroom : s.health.faultMap.length < 64) (hinstalled : e.hook < installed s) : HealthLaw (listHook e s) := by
  obtain ⟨⟨-, hsorted, hhooks, hover⟩, hmodules⟩ := h
  have hmap : (listHook e s).health = { s.health with faultMap := insertFault e s.health.faultMap } := by
    simp [listHook]
  have hinst : installed (listHook e s) = installed s := by simp [installed]
  refine ⟨⟨?_, ?_, ?_, ?_⟩, ?_⟩
  · rw [hmap, insertFault_length]
    omega
  · rw [hmap]
    exact insertFault_sorted hsorted he
  · rw [hmap, hinst]
    intro x hx
    rcases mem_insertFault.mp hx with rfl | hx
    · exact hinstalled
    · exact hhooks x hx
  · rw [hmap]
    exact hover
  · intro c
    simpa [hmap] using hmodules c

/-! ## Module records (R123-R131) -/

theorem recordLaw_of_moduleRecord {s : State} (h : ModuleLaw s) {c : Fin 6} {k : Nat} {r : ModuleRecord}
    (hr : moduleRecord s c k = some r) : RecordLaw r :=
  (h c).2 r (List.mem_of_getElem? hr)

/-- A record that keeps to its counts may be stored. -/
theorem setModule_healthLaw {s : State} (h : HealthLaw s) (c : Fin 6) (k : Nat) {r : ModuleRecord} (hr : RecordLaw r) :
    HealthLaw (setModule c k r s) := by
  refine ⟨h.1, fun d => ⟨(setModule_length c d k r s).trans (h.2 d).1, fun x hx => ?_⟩⟩
  by_cases hcd : c.val = d.val
  · have hx' : x ∈ s.health.modules[c].set k r := by simpa [setModule, Vector.getElem_set, hcd] using hx
    rcases List.mem_or_eq_of_mem_set hx' with hmem | rfl
    · exact (h.2 c).2 x hmem
    · exact hr
  · have hx' : x ∈ s.health.modules[d] := by simpa [setModule, Vector.getElem_set, hcd] using hx
    exact (h.2 d).2 x hx'

/-- A record put out of service keeps to its counts. -/
theorem recordLaw_failed {r : ModuleRecord} (h : RecordLaw r) {x : ModuleState} (hx : isFailed { r with state := x } = true) :
    RecordLaw { r with state := x } :=
  ⟨h.1, h.2.1, fun hf => by rw [hx] at hf; cases hf⟩

theorem latchIfFull_healthLaw (c : Fin 6) (k : Nat) {s : State} (h : HealthLaw s) : HealthLaw (latchIfFull c k s) := by
  have latched : ∀ r, moduleRecord s c k = some r → HealthLaw (setModule c k { r with state := .latched } s) :=
    fun r hr => setModule_healthLaw h c k (recordLaw_failed (recordLaw_of_moduleRecord h.2 hr) rfl)
  unfold latchIfFull
  split
  · exact h
  · rename_i r hr
    split
    · split
      · exact latched r hr
      · exact h
    · split
      · exact latched r hr
      · exact h
    · exact h
    · exact h

theorem takeFinding_healthLaw (c : Fin 6) (k : Nat) {e : FaultEntry} {s : State} (h : HealthLaw s)
    (hinstalled : e.hook < installed s) : HealthLaw (takeFinding c k e s) := by
  unfold takeFinding
  split
  · exact h
  · rename_i hlisted
    split
    · exact latchIfFull_healthLaw c k (listHook_healthLaw h (by simpa using hlisted) ‹_› hinstalled)
    · obtain ⟨⟨hlen, hsorted, hhooks, -⟩, hmodules⟩ := h
      exact ⟨⟨hlen, hsorted, hhooks, Nat.min_le_right _ _⟩, hmodules⟩

theorem findingEntry_hook {latch : Shift} {h : Nat} {f : Finding} {e : FaultEntry} (he : findingEntry latch h f = some e) :
    e.hook = h := by
  unfold findingEntry at he
  split at he
  · split at he
    · cases he
      rfl
    · cases he
  · cases he

/-- The findings of a word are for installed hooks: those of its module. -/
theorem takeFindings_healthLaw (latch : Shift) (c : Fin 6) (k : Nat) (fs : List Finding) {h : Nat} {s : State}
    (hs : HealthLaw s) (hinstalled : h + fs.length ≤ installed s) : HealthLaw (takeFindings latch c k h fs s) := by
  induction fs generalizing h s with
  | nil => exact hs
  | cons f fs ih =>
    simp only [List.length_cons] at hinstalled
    unfold takeFindings
    split
    · rename_i e he
      have hinst : installed (takeFinding c k e s) = installed s := by simp [installed]
      refine ih (takeFinding_healthLaw c k hs ?_) (by rw [hinst]; omega)
      rw [findingEntry_hook he]
      omega
    · exact ih hs (by omega)

theorem strike_healthLaw (c : Fin 6) (k : Nat) {r : ModuleRecord} {s : State} (h : HealthLaw s) (hr : r.strikes ≤ 2) :
    HealthLaw (strike c k r s) := by
  unfold strike
  split
  · exact setModule_healthLaw h c k ⟨by dsimp only; omega, Nat.zero_le _, fun hf => by cases hf⟩
  · exact setModule_healthLaw h c k ⟨by dsimp only; omega, Nat.zero_le _, fun _ => by dsimp only; omega⟩

theorem cleanShift_healthLaw (c : Fin 6) (k : Nat) {r : ModuleRecord} {s : State} (h : HealthLaw s) (hr : RecordLaw r) :
    HealthLaw (cleanShift c k r s) := by
  obtain ⟨hstrikes, -, hservice⟩ := hr
  unfold cleanShift
  split
  · exact setModule_healthLaw h c k ⟨Nat.zero_le _, Nat.zero_le _, fun _ => Nat.zero_le _⟩
  · exact setModule_healthLaw h c k ⟨hstrikes, by dsimp only; omega, hservice⟩

theorem takeOvercurrent_healthLaw (c : Fin 6) (k : Nat) (overcurrent : Bool) {s : State} (h : HealthLaw s) :
    HealthLaw (takeOvercurrent c k overcurrent s) := by
  unfold takeOvercurrent
  split
  · exact h
  · rename_i r hr
    have hlaw := recordLaw_of_moduleRecord h.2 hr
    split
    · rename_i hstate
      split
      · exact strike_healthLaw c k h (hlaw.2.2 (by simp [isFailed, hstate]))
      · exact cleanShift_healthLaw c k h hlaw
    · rename_i hstate
      split
      · exact strike_healthLaw c k h (hlaw.2.2 (by simp [isFailed, hstate]))
      · exact h
    · exact h
    · exact h

theorem firstHook_eq (s : State) (c : Fin 6) (k : Nat) : firstHook s c k = firstHook s c 0 + 16 * k := by
  simp [firstHook]

/-- The sixteen hooks of a module are installed (R103). -/
theorem firstHook_lt_installed {s : State} (h : ModuleLaw s) {c : Fin 6} {k : Nat} {r : ModuleRecord}
    (hr : moduleRecord s c k = some r) : firstHook s c k + 16 ≤ installed s := by
  obtain ⟨hk, -⟩ := List.getElem?_eq_some_iff.mp hr
  have hlen := (h c).1
  have hfirst := firstHook_le_installed s c
  rw [firstHook_eq]
  omega

theorem takeWord_healthLaw (latch : Shift) (c : Fin 6) (k : Nat) (w : StatusWord) {s : State} (h : HealthLaw s) :
    HealthLaw (takeWord latch c k w s) := by
  have judged : ∀ b t, HealthLaw t → HealthLaw (judgeChain c b t) := by
    intro b t ht
    unfold judgeChain
    split
    · exact healthLaw_raise _ ht
    · exact ht
  unfold takeWord
  split
  · exact h
  · rename_i r hr
    refine judged _ _ ?_
    split
    · refine takeOvercurrent_healthLaw c k _ ?_
      split
      · exact h
      · exact takeFindings_healthLaw latch c k _ h (by simpa using firstHook_lt_installed h.2 hr)
    · unfold loseModule
      split
      · exact h
      · exact setModule_healthLaw h c k (recordLaw_failed (recordLaw_of_moduleRecord h.2 hr) rfl)

theorem endShift_healthLaw (status : List (List StatusWord)) {s : State} (h : HealthLaw s) :
    HealthLaw (endShift status s) := by
  have started : ∀ kind t, HealthLaw t → HealthLaw (startShift kind t) := by
    intro kind t ht
    unfold startShift
    split <;> exact ht
  refine endShift_keeps (P := HealthLaw) (fun _ _ _ h => h) (fun latch c k w _ h => takeWord_healthLaw latch c k w h)
    (fun t ht => ?_) status h
  unfold startPending
  split
  · exact ht
  · exact started _ _ ht

/-- A module that leaves its rest keeps its strikes. -/
theorem tickModule_law {r : ModuleRecord} (h : RecordLaw r) : RecordLaw (tickModule r) := by
  unfold tickModule
  split
  · rename_i hstate
    have hservice := h.2.2 (by simp [isFailed, hstate])
    split
    · exact ⟨h.1, Nat.zero_le _, fun _ => hservice⟩
    · exact ⟨h.1, h.2.1, fun _ => hservice⟩
  · exact h
  · exact h
  · exact h

theorem tickHealth_law {s : State} (h : HealthLaw s) :
    HealthLaw ((s.setTracker (tickTimer s.tracker)).setHealth (tickHealth s.health)) := by
  refine ⟨h.1, fun c => ?_⟩
  obtain ⟨hlen, hrecords⟩ := h.2 c
  simp only [setHealth_health, tickHealth, setHealth_selector, setTracker_selector, Fin.getElem_fin, Vector.getElem_ofFn,
    List.length_map, List.mem_map, forall_exists_index, and_imp, forall_apply_eq_imp_iff₂]
  exact ⟨hlen, fun r hr => tickModule_law (hrecords r hr)⟩

theorem expireRest_healthLaw (c : Fin 6) (k : Nat) {s : State} (h : HealthLaw s) : HealthLaw (expireRest c k s) := by
  unfold expireRest
  split
  · exact h
  · rename_i r hr
    have hlaw := recordLaw_of_moduleRecord h.2 hr
    split
    · rename_i hstate
      exact setModule_healthLaw h c k ⟨hlaw.1, Nat.zero_le _, fun _ => hlaw.2.2 (by simp [isFailed, hstate])⟩
    · exact h
    · exact h
    · exact h

/-- With no entry listed and no module there is nothing to keep. -/
theorem healthLaw_of_empty {s : State} (hmap : s.health.faultMap = []) (hover : s.health.overflow ≤ 65535)
    (hmodules : ModuleLaw s) : HealthLaw s := by
  refine ⟨?_, hmodules⟩
  simpa [FaultMapLaw, hmap] using hover

theorem moduleLaw_absent {s : State} (hchains : s.selector.chains = Vector.replicate 6 .absent)
    (hmodules : s.health.modules = Vector.replicate 6 []) : ModuleLaw s := by
  intro c
  simp [hchains, hmodules, moduleCount]

theorem clearMap_healthLaw {s : State} (h : HealthLaw s) : HealthLaw (clearMap s) := by
  have hhealth : (clearMap s).health = { s.health with faultMap := [], overflow := 0 } := by simp [clearMap]
  refine healthLaw_of_empty (by rw [hhealth]) (by rw [hhealth]; exact Nat.zero_le _) fun c => ?_
  rw [hhealth, (clearMap_frame s).2.2.2.2.2.2.2.1]
  exact h.2 c

theorem cmdRelease_healthLaw (chain module : Nat) {s : State} (h : HealthLaw s) :
    HealthLaw (cmdRelease chain module s).state := by
  unfold cmdRelease releaseAt
  split
  · split
    · split
      · split
        · exact h
        · split
          · exact setModule_healthLaw h _ _ ⟨Nat.zero_le _, Nat.zero_le _, fun _ => Nat.zero_le _⟩
          · exact h
      · exact h
    · exact h
  · exact h

theorem performCommand_healthLaw (c : Command) {s : State} (h : HealthLaw s) : HealthLaw (performCommand c s).state := by
  cases c
  case clearFaultMap =>
    simp only [performCommand, cmdClearFaultMap]
    split
    · exact h
    · exact clearMap_healthLaw h
  case releaseModule chain module => exact cmdRelease_healthLaw _ _ h
  case reset =>
    refine healthLaw_of_empty ?_ ?_ (moduleLaw_absent ?_ ?_)
    all_goals simp [performCommand, cmdReset, accept, resetNode, resetControl, resetHealth, beginSizing]
  all_goals
    exact healthLaw_of_eq h (by simp [performCommand, cmdConfigureUnknown, refuse])
      (by simp [performCommand, cmdConfigureUnknown, refuse]) (by simp [performCommand, cmdConfigureUnknown, refuse])
      (by simp [performCommand, cmdConfigureUnknown, refuse])

/-- Completing the sizing gives every module of the new chains a fresh record. -/
theorem completeSizing_moduleLaw (v : Vector ChainSize 6) (s : State) : ModuleLaw (completeSizing v s) := by
  intro c
  simp only [completeSizing, setNode_frame, setHealth_health, setHealth_selector, setSelector_selector, Fin.getElem_fin,
    Vector.getElem_ofFn, List.length_replicate, List.mem_replicate, true_and]
  rintro r ⟨-, rfl⟩
  decide

theorem endMarkerPass_healthLaw (c : Fin 6) (p : Option (Fin 4096)) {s : State} (h : HealthLaw s) (hinit : InitLaw s) :
    HealthLaw (endMarkerPass c p s) := by
  by_cases hn : s.control.node = .init
  · obtain ⟨-, -, -, hmap, -⟩ := hinit.2 hn
    obtain ⟨hmap', hover, hmodules⟩ := endMarkerPass_keeps
      (P := fun s => s.health.faultMap = [] ∧ s.health.overflow ≤ 65535 ∧ ModuleLaw s) (fun _ _ _ _ h => h)
      (fun _ _ h => h) (fun v w s _ h => ⟨h.1, h.2.1, completeSizing_moduleLaw v s⟩) c p ⟨hmap, h.1.2.2.2, h.2⟩
    exact healthLaw_of_empty hmap' hover hmodules
  · rwa [endMarkerPass_of_not_init c p hinit hn]

theorem healthLaws_kept {s t : State} (h : HealthLaw s ∧ InitLaw s) (hstep : step s = .next t) :
    HealthLaw t ∧ InitLaw t := by
  refine step_keeps (P := fun s => HealthLaw s ∧ InitLaw s) (port := fun _ _ h => h) (pending := fun _ _ h => h)
    (event := fun k _ h => ⟨healthLaw_raise k h.1, initLaw_raise k h.2⟩)
    (power := fun _ _ => ⟨healthLaw_of_empty rfl (Nat.zero_le _) (moduleLaw_absent rfl rfl), initLaw_powerOn _⟩)
    (lines := fun a b z _ h => ⟨healthLaw_of_eq h.1 (by simp) (by simp) (by simp) (by simp), encoderLines_initLaw a b z h.2⟩)
    (lost := fun _ h _ => ⟨h.1, loseIndex_keeps (P := InitLaw) (fun _ _ h => h) (fun _ _ h => h)
      (fun k _ h => initLaw_raise k h) _ h.2⟩)
    (capture := fun _ h => h)
    (input := fun level _ h => ⟨healthLaw_of_eq h.1 (by simp) (by simp) (by simp) (by simp),
      inputZero_keeps (P := InitLaw) (fun _ _ h => h) level h.2⟩)
    (inputs := fun n level _ h => ⟨healthLaw_of_eq h.1 (by simp) (by simp) (by simp) (by simp),
      inputLevel_keeps (P := InitLaw) (fun _ _ h => h) (fun k _ h => initLaw_raise k h) n level h.2⟩)
    (row := fun _ _ _ h hj hd => ⟨healthLaw_of_eq h.1 (by simp) (by simp) (by simp) (by simp),
      acceptRow_initLaw h.2 (judgeDesign_accepted hj hd).1⟩)
    (command := fun c _ h hi => ⟨performCommand_healthLaw c h.1, performCommand_initLaw c h.2 hi⟩)
    (flush := fun _ h => ⟨healthLaw_of_eq h.1 (by simp) (by simp) (by simp) (by simp), endFlush_initLaw h.2⟩)
    (marker := fun c p _ h => ⟨endMarkerPass_healthLaw c p h.1 h.2, endMarkerPass_initLaw c p h.2⟩)
    (record := fun _ h => ⟨healthLaw_of_eq h.1 (by simp) (by simp) (by simp) (by simp), recordDone_initLaw h.2⟩)
    (shift := fun status _ h => ⟨endShift_healthLaw status h.1, endShift_initLaw status h.2⟩)
    (rest := fun c k _ h => ⟨expireRest_healthLaw c k h.1, expireRest_initLaw c k h.2⟩)
    (time := fun _ h => ⟨tickHealth_law h.1, tick_initLaw h.2⟩) h hstep

/-- Settles O55: the status words, the rests, the releases and the end of the sizing keep the records, the findings are
listed in hook order and only for installed hooks. -/
theorem healthLawKept : Obligations.HealthLawKept := by
  unfold Obligations.HealthLawKept
  intro s t hmap hmodules hinit hstep
  exact (healthLaws_kept ⟨⟨hmap, hmodules⟩, hinit⟩ hstep).1

end Sys2Proof.Proofs.HealthLaws

/-! PROOFS. The row counters under every step (R2, R20-R22, R34, R172, R184): the counter of a LOADED slot, the snapshots of
the queued records, and the load transaction that excludes them. -/

namespace Sys2Proof.Proofs.RowCounters

open Sys2Proof Sys2Proof.Machine Sys2Proof.Proofs.StoreLaws Sys2Proof.Proofs.WorkAndInit

/-! ## Snapshots behind a counter (R21, R22) -/

/-- In slot `i` of height `h` every snapshot of a list is behind the counter by the number of records from it to the end. -/
def Behind (i : Fin 16) (h counter : Nat) (snapshots : List (Vector (Option Nat) 16)) : Prop :=
  ∀ j v, snapshots[j]? = some v → ∃ y < h, v[i] = some y ∧ counter = (y + (snapshots.length - j)) % h

theorem snapshotLaw_iff (s : State) :
    SnapshotLaw s ↔
      ∀ i : Fin 16, ∀ g ∈ loadedGeometry s.tables.weaves[i],
        Behind i g.h s.engine.rowCounters[i] (s.store.queue.map LiftRecord.snapshot) := by
  refine forall_congr' fun i => forall₂_congr fun g _ => ⟨fun h j v hj => ?_, fun h j => ?_⟩
  · obtain ⟨hlt, rfl⟩ := List.getElem?_eq_some_iff.mp hj
    have := h ⟨j, by simpa using hlt⟩
    simpa using this
  · have := h j s.store.queue[j].snapshot (by simp)
    simpa using this

theorem behind_nil (i : Fin 16) (h counter : Nat) : Behind i h counter [] := by
  intro j v hj
  simp at hj

theorem behind_tail {i : Fin 16} {h counter : Nat} {v : Vector (Option Nat) 16} {vs : List (Vector (Option Nat) 16)}
    (hb : Behind i h counter (v :: vs)) : Behind i h counter vs := by
  intro j x hj
  obtain ⟨y, hy, hx, hc⟩ := hb (j + 1) x (by simpa using hj)
  refine ⟨y, hy, hx, ?_⟩
  rw [hc, List.length_cons, Nat.add_sub_add_right]

/-- `k` records accepted: the old ones are `k` farther behind, new record `j` is `k - j` behind. -/
theorem behind_append {i : Fin 16} {h counter k : Nat} {vs : List (Vector (Option Nat) 16)}
    {fresh : Nat → Vector (Option Nat) 16} (hpos : 0 < h) (hb : Behind i h counter vs)
    (hfresh : ∀ j < k, (fresh j)[i] = some ((counter + j) % h)) :
    Behind i h ((counter + k) % h) (vs ++ (List.range k).map fresh) := by
  intro j x hj
  rw [List.length_append, List.length_map, List.length_range]
  rcases Nat.lt_or_ge j vs.length with hlt | hge
  · rw [List.getElem?_append_left hlt] at hj
    obtain ⟨y, hy, hx, hc⟩ := hb j x hj
    refine ⟨y, hy, hx, ?_⟩
    rw [hc, Nat.mod_add_mod, show vs.length + k - j = vs.length - j + k by omega, Nat.add_assoc]
  · rw [List.getElem?_append_right hge, List.getElem?_map] at hj
    obtain ⟨m, hm, rfl⟩ := Option.map_eq_some_iff.mp hj
    obtain ⟨hmk, rfl⟩ := List.getElem?_eq_some_iff.mp hm
    simp only [List.length_range] at hmk
    simp only [List.getElem_range]
    refine ⟨_, Nat.mod_lt _ hpos, hfresh _ hmk, ?_⟩
    rw [Nat.mod_add_mod, show counter + (j - vs.length) + (vs.length + k - j) = counter + k by omega]

/-! ## What keeps the law -/

/-- The law when the load, the slots that are LOADED with their counters, the backlog and the snapshots are as they were. -/
theorem rowCounterLaw_of_eq {s t : State} (h : RowCounterLaw s) (hload : t.load = s.load)
    (hweaves : t.tables.weaves = s.tables.weaves) (hcounters : t.engine.rowCounters = s.engine.rowCounters)
    (hbacklog : t.engine.backlog = s.engine.backlog) (hqueue : t.store.queue = s.store.queue) : RowCounterLaw t := by
  obtain ⟨hl, hr, hs⟩ := h
  rw [snapshotLaw_iff] at hs
  refine ⟨by simpa only [LoadLaw, hload, hbacklog, hqueue] using hl, by simpa only [CounterRange, hweaves, hcounters] using hr,
    (snapshotLaw_iff t).mpr ?_⟩
  simpa only [hweaves, hcounters, hqueue] using hs

/-- The law when some LOADED slots are so no longer and the other slots keep their counters; the load is the new one's. -/
theorem rowCounterLaw_of_fewer {s t : State} (h : RowCounterLaw s) (hload : LoadLaw t)
    (hloaded : ∀ i : Fin 16, ∀ g ∈ loadedGeometry t.tables.weaves[i],
      g ∈ loadedGeometry s.tables.weaves[i] ∧ t.engine.rowCounters[i] = s.engine.rowCounters[i])
    (hqueue : t.store.queue = s.store.queue) : RowCounterLaw t := by
  obtain ⟨-, hr, hs⟩ := h
  rw [snapshotLaw_iff] at hs
  refine ⟨hload, fun i g hg => ?_, (snapshotLaw_iff t).mpr fun i g hg => ?_⟩
  · obtain ⟨hg', hc⟩ := hloaded i g hg
    rw [hc]
    exact hr i g hg'
  · obtain ⟨hg', hc⟩ := hloaded i g hg
    rw [hc, hqueue]
    exact hs i g hg'

/-- With an empty queue the ranges of the counters are all there is. -/
theorem rowCounterLaw_of_empty {s : State} (hload : LoadLaw s) (hrange : CounterRange s) (hqueue : s.store.queue = []) :
    RowCounterLaw s := by
  refine ⟨hload, hrange, (snapshotLaw_iff s).mpr fun i g _ => ?_⟩
  rw [hqueue]
  exact behind_nil _ _ _

theorem loadLaw_of_none {s : State} (h : s.load = none) : LoadLaw s := by
  simp [LoadLaw, h]

theorem loadLaw_of_empty {s : State} (hbacklog : s.engine.backlog = []) (hqueue : s.store.queue = []) : LoadLaw s := by
  simp [LoadLaw, hbacklog, hqueue]

theorem height_pos {g : Geometry} (h : geometryPasses g = true) : 0 < g.h := by
  simp only [geometryPasses, Bool.and_eq_true, decide_eq_true_eq] at h
  omega

theorem start_lt_height {g : Geometry} (h : geometryPasses g = true) : g.start < g.h := by
  simp only [geometryPasses, Bool.and_eq_true, decide_eq_true_eq] at h
  omega

/-! ## Crossings, acceptance and completion -/

theorem storeForward_rowCounterLaw {s : State} (h : RowCounterLaw s) : RowCounterLaw (storeForward s) := by
  rcases storeForward_queue s with hq | ⟨r, -, hq⟩
  · exact rowCounterLaw_of_eq h (by simp) (by simp) (by simp) (by simp) hq
  · obtain ⟨hload, hrange, hsnap⟩ := h
    rw [snapshotLaw_iff] at hsnap
    refine ⟨?_, by simpa [CounterRange] using hrange, (snapshotLaw_iff _).mpr fun i g hg => ?_⟩
    · refine ⟨by simpa using hload.1, fun hw => ?_⟩
      have hnil := hload.2 (by simpa using hw)
      rw [hq] at hnil
      cases hnil
    · have hb := hsnap i g (by simpa using hg)
      rw [hq, List.map_cons] at hb
      simpa using behind_tail hb

/-- Completing a record keeps every snapshot, and there is none to complete while a load is open. -/
theorem recordDone_rowCounterLaw {s : State} (h : RowCounterLaw s) : RowCounterLaw (recordDone s) := by
  rcases recordDone_work s with ⟨hs, -⟩ | ⟨lifts, mark, hq, hb⟩
  · rwa [hs]
  · obtain ⟨hload, hrange, hsnap⟩ := h
    rw [snapshotLaw_iff] at hsnap
    have hmap : (recordDone s).store.queue.map LiftRecord.snapshot = s.store.queue.map LiftRecord.snapshot := by
      rw [hq]
      exact updateUnderWork_map (finishRecord lifts mark) LiftRecord.snapshot (fun _ => rfl) _
    refine ⟨⟨fun ho => ?_, fun hw => ?_⟩, by simpa [CounterRange] using hrange, (snapshotLaw_iff _).mpr ?_⟩
    · rw [hb, hload.1 (by simpa using ho)]
      rfl
    · rw [hq, hload.2 (by simpa using hw)]
      rfl
    · simpa [hmap] using hsnap

theorem recordsDone_rowCounterLaw (n : Nat) {s : State} (h : RowCounterLaw s) : RowCounterLaw (recordsDone n s) := by
  induction n generalizing s with
  | zero => exact h
  | succ n ih => exact ih (recordDone_rowCounterLaw h)

theorem reserveRow_rowCounterLaw (row : DesignRow) (feeder : Nat) {s : State} (h : RowCounterLaw s)
    (hload : s.load = none) : RowCounterLaw (reserveRow row feeder s) := by
  obtain ⟨-, hrange, hsnap⟩ := h
  rw [snapshotLaw_iff] at hsnap
  have hcounter : ∀ i : Fin 16, ∀ g ∈ loadedGeometry s.tables.weaves[i],
      (reserveRow row feeder s).engine.rowCounters[i] = (s.engine.rowCounters[i] + row.count) % g.h := by
    intro i g hg
    simp only [Option.mem_def, Fin.getElem_fin] at hg
    simp [reserveRow, advanceCounter, hg]
  refine ⟨loadLaw_of_none (by simpa using hload), fun i g hg => ?_, (snapshotLaw_iff _).mpr fun i g hg => ?_⟩
  · have hg' : g ∈ loadedGeometry s.tables.weaves[i] := by simpa using hg
    obtain ⟨hpass, -⟩ := hrange i g hg'
    rw [hcounter i g hg']
    exact ⟨hpass, Nat.mod_lt _ (height_pos hpass)⟩
  · have hg' : g ∈ loadedGeometry s.tables.weaves[i] := by simpa using hg
    rw [hcounter i g hg']
    have hqueue : (reserveRow row feeder s).store.queue.map LiftRecord.snapshot =
        s.store.queue.map LiftRecord.snapshot ++ (List.range row.count).map (rowSnapshot s) := by
      simp only [reserveRow, setAdmission_store, setEngine_store, setStore_store, List.map_append, List.map_map]
      rfl
    rw [hqueue]
    refine behind_append (height_pos (hrange i g hg').1) (hsnap i g hg') fun j _ => ?_
    simp only [Option.mem_def, Fin.getElem_fin] at hg'
    simp [rowSnapshot, hg']

theorem acceptRow_rowCounterLaw (row : DesignRow) {s : State} (h : RowCounterLaw s) (hload : s.load = none) :
    RowCounterLaw (acceptRow row s) := by
  unfold acceptRow startEngine
  split
  · exact recordsDone_rowCounterLaw _ (reserveRow_rowCounterLaw row _ h hload)
  · exact reserveRow_rowCounterLaw row _ h hload

/-! ## Discard and reset (R2, R34) -/

theorem rollBack_lt {slot : WeaveSlot} {g : Geometry} (hg : g ∈ loadedGeometry slot) (hpos : 0 < g.h) (r m : Nat) :
    rollBack slot r m < g.h := by
  simp only [Option.mem_def] at hg
  simp only [rollBack, hg]
  have := Int.emod_lt_of_pos ((r : Int) - m) (show (0 : Int) < g.h by omega)
  omega

theorem discardWork_rowCounterLaw {s t : State} (h : RowCounterLaw s) (htables : t.tables = s.tables)
    (hengine : t.engine = (discardWork s).engine) (hqueue : t.store.queue = []) : RowCounterLaw t := by
  obtain ⟨-, hrange, -⟩ := h
  refine rowCounterLaw_of_empty (loadLaw_of_empty (by rw [hengine]; rfl) hqueue) (fun i g hg => ?_) hqueue
  rw [htables] at hg
  obtain ⟨hpass, -⟩ := hrange i g hg
  refine ⟨hpass, ?_⟩
  rw [hengine]
  simpa [discardWork] using rollBack_lt hg (height_pos hpass) _ _

theorem startRows_range {s t : State} (h : CounterRange s) (hweaves : t.tables.weaves = s.tables.weaves)
    (hcounters : t.engine.rowCounters = startRows s.tables.weaves) : CounterRange t := by
  intro i g hg
  rw [hweaves] at hg
  obtain ⟨hpass, -⟩ := h i g hg
  refine ⟨hpass, ?_⟩
  rw [hcounters]
  simp only [Option.mem_def, Fin.getElem_fin] at hg
  simpa [startRows, hg] using start_lt_height hpass

/-! ## The load transaction (R184-R187) -/

theorem judgeOpen_accepted {table first count : Byte} {s : State} {o : OutcomeCode} {t : TableId}
    (h : judgeOpen table first count s = (o, some t)) :
    s.engine.backlog = [] ∧ (t = .weave → s.store.queue = []) := by
  unfold judgeOpen at h
  split at h
  · cases h
  · split at h
    · cases h
    · split at h
      · cases h
      · split at h
        · cases h
        · split at h
          · cases h
          · rename_i hb hq
            cases h
            exact ⟨by simpa using hb, fun ht => by simpa [ht] using hq⟩

theorem openTarget_loaded (t : TableId) (first count : Nat) (s : State) (i : Fin 16) {g : Geometry}
    (hg : g ∈ loadedGeometry (openTarget t first count s).tables.weaves[i]) :
    g ∈ loadedGeometry s.tables.weaves[i] ∧
      (openTarget t first count s).engine.rowCounters[i] = s.engine.rowCounters[i] := by
  cases t
  case weave =>
    simp only [openTarget, fillRange, setEngine_tables, setTables_tables, setEngine_engine, Fin.getElem_fin,
      Vector.getElem_ofFn] at hg ⊢
    split at hg
    · cases hg
    · rename_i hout
      exact ⟨hg, if_neg hout⟩
  all_goals exact ⟨hg, rfl⟩

theorem cmdLoadOpen_rowCounterLaw (table first count : Byte) {s : State} (h : RowCounterLaw s) :
    RowCounterLaw (cmdLoadOpen table first count s).state := by
  unfold cmdLoadOpen
  split
  · exact h
  · rename_i o t hj
    obtain ⟨hbacklog, hqueue⟩ := judgeOpen_accepted hj
    refine rowCounterLaw_of_fewer h ?_ (fun i g hg => openTarget_loaded t _ _ s i hg) (by simp)
    refine ⟨fun _ => by simpa using hbacklog, fun hw => ?_⟩
    have ht : t = .weave := by simpa using hw
    simpa using hqueue ht

/-- Entries written by a load make no slot LOADED (R3). -/
theorem writeEntries_loaded (start : Nat) (e : LoadEntries) (t : Tables) (i : Fin 16) {g : Geometry}
    (hg : g ∈ loadedGeometry (writeEntries start e t).weaves[i]) : g ∈ loadedGeometry t.weaves[i] := by
  cases e
  case weaves xs =>
    simp only [writeEntries, writeFrom, Fin.getElem_fin, Vector.getElem_ofFn, List.getD_eq_getElem?_getD,
      List.getElem?_map] at hg
    split at hg
    · cases hx : xs[i.val - start]? with
      | none => simpa [hx] using hg
      | some x => simp [hx, loadedGeometry] at hg
    · exact hg
  all_goals exact hg

theorem cmdLoadData_rowCounterLaw (sequence count : Byte) (bytes : List Byte) {s : State} (h : RowCounterLaw s) :
    RowCounterLaw (cmdLoadData sequence count bytes s).state := by
  unfold cmdLoadData
  split
  · exact h
  · rename_i ld hload
    split
    · exact h
    · split
      · exact h
      · rename_i e _
        obtain ⟨hbacklog, hqueue⟩ := h.1
        refine rowCounterLaw_of_fewer h ⟨fun _ => ?_, fun hw => ?_⟩
          (fun i g hg => ⟨writeEntries_loaded _ e s.tables i hg, rfl⟩) rfl
        · exact hbacklog (by simp [hload])
        · exact hqueue (by simpa [hload, takeEntries] using hw)

theorem mem_loadIndices {ld : Load} {i : Nat} : i ∈ loadIndices ld ↔ inLoad ld i = true := by
  simp only [loadIndices, List.mem_map, List.mem_range, inLoad, decide_eq_true_eq]
  exact ⟨fun ⟨k, hk, hi⟩ => by omega, fun h => ⟨i - ld.first, by omega, by omega⟩⟩

/-- No index of a load's range fails exactly when every one passes. -/
theorem firstFailing_none_iff {ld : Load} {passes : Nat → Bool} :
    firstFailing ld passes = none ↔ ∀ i, inLoad ld i = true → passes i = true := by
  simp only [firstFailing, List.find?_eq_none, mem_loadIndices]
  simp

theorem checkWeaves_pass_iff {ld : Load} {t : Tables} :
    checkWeaves ld t = .pass ↔
      ∀ i, inLoad ld i = true → ((t.weaves[i]?).map slotPasses).getD false = true := by
  rw [← firstFailing_none_iff]
  unfold checkWeaves
  split <;> simp [*]

/-- A slot whose load passed its checks becomes LOADED with a geometry in range, its counter at the start row (R4). -/
theorem makeUsable_range {ld : Load} {s : State} (h : CounterRange s) (hpass : checkLoad ld s.tables = .pass) :
    CounterRange (makeUsable ld s) := by
  unfold makeUsable
  split
  · rename_i htable
    simp only [checkLoad, htable, checkWeaves_pass_iff] at hpass
    intro i g hg
    simp only [setEngine_tables, setTables_tables, setEngine_engine, Fin.getElem_fin, Vector.getElem_ofFn] at hg ⊢
    cases hin : inLoad ld i with
    | false =>
      simp only [hin, Bool.false_eq_true, if_false] at hg ⊢
      exact h i g hg
    | true =>
      have hslot : slotPasses s.tables.weaves[i.val] = true := by simpa using hpass i hin
      simp only [slotPasses] at hslot
      simp only [hin, if_true, startRows, Fin.getElem_fin, Vector.getElem_ofFn, slotLoaded] at hg ⊢
      cases hw : writtenGeometry s.tables.weaves[i.val] with
      | none => simp [hw] at hslot
      | some x =>
        simp only [hw, Option.map_some, Option.getD_some] at hslot
        simp only [hw, loadedGeometry, Option.mem_def, Option.some.injEq] at hg
        subst hg
        exact ⟨hslot, start_lt_height hslot⟩
  all_goals exact h

theorem cmdLoadClose_rowCounterLaw {s : State} (h : RowCounterLaw s) : RowCounterLaw (cmdLoadClose s).state := by
  have dropped : ∀ t : State, RowCounterLaw t → RowCounterLaw (dropLoad t) := fun t ht =>
    ⟨loadLaw_of_none rfl, ht.2⟩
  unfold cmdLoadClose
  split
  · exact h
  · rename_i ld hload
    split
    · exact dropped s h
    · split
      · rename_i hpass
        refine ⟨loadLaw_of_none rfl, makeUsable_range h.2.1 hpass, ?_⟩
        cases htable : ld.table
        case weave =>
          have hqueue : s.store.queue = [] := h.1.2 (by simp [hload, htable])
          intro i g _ j
          have := j.isLt
          simp [accept, dropLoad, hqueue] at this
        all_goals
          simp only [accept, dropLoad, makeUsable, htable]
          exact h.2.2
      · exact dropped s h

theorem cmdLoadAbort_rowCounterLaw {s : State} (h : RowCounterLaw s) : RowCounterLaw (cmdLoadAbort s).state := by
  unfold cmdLoadAbort
  split
  · exact h
  · exact ⟨loadLaw_of_none rfl, h.2⟩

theorem performCommand_rowCounterLaw (c : Command) {s : State} (h : RowCounterLaw s) :
    RowCounterLaw (performCommand c s).state := by
  cases c
  case loadOpen table first count => exact cmdLoadOpen_rowCounterLaw _ _ _ h
  case loadData sequence count entries => exact cmdLoadData_rowCounterLaw _ _ _ h
  case loadClose => exact cmdLoadClose_rowCounterLaw h
  case loadAbort => exact cmdLoadAbort_rowCounterLaw h
  case discardQueue expected =>
    simp only [performCommand, cmdDiscard]
    split
    · exact h
    · exact discardWork_rowCounterLaw h rfl rfl rfl
  case clearHistory =>
    simp only [performCommand, cmdClearHistory]
    split <;> exact h
  case reset =>
    refine rowCounterLaw_of_empty (loadLaw_of_none ?_) (startRows_range h.2.1 ?_ ?_) ?_
    all_goals simp [performCommand, cmdReset, accept, resetNode, resetRowCounters, dropLoad, emptyStore, abandonWork]
  all_goals
    exact rowCounterLaw_of_eq h (by simp [performCommand, cmdConfigureUnknown, refuse])
      (by simp [performCommand, cmdConfigureUnknown, refuse]) (by simp [performCommand, cmdConfigureUnknown, refuse])
      (by simp [performCommand, cmdConfigureUnknown, refuse]) (by simp [performCommand, cmdConfigureUnknown, refuse])

theorem rowCounterLaw_reset : RowCounterLaw State.reset := by
  refine rowCounterLaw_of_empty (loadLaw_of_none rfl) (fun i g hg => ?_) rfl
  simp [State.reset, loadedGeometry] at hg

/-- Settles O54: an acceptance moves the counters and the snapshots together, a discard and a load leave no record behind the
slots they touch, and a close puts a counter at a start row in range. -/
theorem rowCounterLawKept : Obligations.RowCounterLawKept := by
  unfold Obligations.RowCounterLawKept
  intro s t hs hstep
  refine step_keeps (P := RowCounterLaw) (port := fun _ _ h => h) (pending := fun _ _ h => h) (event := fun _ _ h => h)
    (power := fun _ _ => rowCounterLaw_of_eq rowCounterLaw_reset rfl rfl rfl rfl rfl) (lines := ?lines)
    (lost := fun _ h _ => h) (capture := fun _ h => h)
    (input := fun _ _ h => rowCounterLaw_of_eq h (by simp) (by simp) (by simp) (by simp) (by simp))
    (inputs := fun _ _ _ h => rowCounterLaw_of_eq h (by simp) (by simp) (by simp) (by simp) (by simp))
    (row := fun _ row _ h hj hd => acceptRow_rowCounterLaw row h (judgeDesign_accepted hj hd).2.1)
    (command := fun c _ h _ => performCommand_rowCounterLaw c h)
    (flush := fun _ h => rowCounterLaw_of_eq h (by simp) (by simp) (by simp) (by simp) (by simp))
    (marker := fun _ _ _ h => rowCounterLaw_of_eq h (by simp) (by simp) (by simp) (by simp) (by simp))
    (record := fun _ h => recordDone_rowCounterLaw h)
    (shift := fun _ _ h => rowCounterLaw_of_eq h (by simp) (by simp) (by simp) (by simp) (by simp))
    (rest := fun _ _ _ h => rowCounterLaw_of_eq h (by simp) (by simp) (by simp) (by simp) (by simp))
    (time := fun _ h => h) hs hstep
  case lines =>
    exact fun a b z s hs => encoderLines_keeps (P := RowCounterLaw) (fun _ _ h => h) (fun _ _ h => h) (fun _ _ h => h)
      (fun s h _ => storeForward_rowCounterLaw h)
      (fun s h _ => rowCounterLaw_of_eq h (by simp) (by simp) (by simp) (by simp) (by simp)) a b z s hs

end Sys2Proof.Proofs.RowCounters

/-! PROOFS. The event records under every step (R142-R145, R149), and the moves of the node state (R135-R140). A raise can
only halt a running node and then leaves a STOP-level flag; every other move is the act of one command, of power-on or of the
end of the last marker pass. -/

namespace Sys2Proof.Proofs.RunControl

open Sys2Proof Sys2Proof.Machine Sys2Proof.Proofs.Keeps Sys2Proof.Proofs.EventRaise Sys2Proof.Proofs.WorkAndInit

/-! ## The event records -/

/-- The law of the record of one kind. -/
def EventRecordLaw (k : Fin 26) (e : EventRecord) : Prop :=
  (e.flag = true ↔ e.count ≠ 0) ∧ e.count ≤ 65535 ∧ (levelFixed k = true → e.level = .stop)

theorem eventLaw_iff (c : Control) : EventLaw c ↔ ∀ k : Fin 26, EventRecordLaw k c.events[k] := Iff.rfl

theorem eventRecordLaw_raised {k : Fin 26} {e : EventRecord} (h : EventRecordLaw k e) :
    EventRecordLaw k (raisedRecord e) := by
  obtain ⟨-, -, hlevel⟩ := h
  refine ⟨?_, Nat.min_le_right _ _, hlevel⟩
  simp [raisedRecord]

theorem eventRecordLaw_cleared {k : Fin 26} {e : EventRecord} (h : EventRecordLaw k e) :
    EventRecordLaw k (clearedRecord e) :=
  ⟨by simp [clearedRecord], Nat.zero_le _, h.2.2⟩

/-- The law of all records after one of them is replaced by a lawful one. -/
theorem eventLaw_set {c d : Control} {k : Fin 26} {e : EventRecord} (h : EventLaw c) (he : EventRecordLaw k e)
    (hd : d.events = c.events.set k e) : EventLaw d := by
  rw [eventLaw_iff]
  intro j
  have hj : d.events[j] = if k.val = j.val then e else c.events[j] := by
    simp only [hd, Fin.getElem_fin, Vector.getElem_set]
  rw [hj]
  split
  · rename_i hkj
    exact Fin.ext hkj ▸ he
  · exact h j

theorem eventLaw_raise (k : EventKind) {s : State} (h : EventLaw s.control) : EventLaw (raise k s).control :=
  eventLaw_set h (eventRecordLaw_raised (h (kindNumber k))) rfl

theorem eventLaw_of_events {c d : Control} (h : EventLaw c) (hevents : d.events = c.events) : EventLaw d := by
  simpa only [EventLaw, hevents] using h

theorem clearNamedEvents_getElem (kinds : List Nat) (v : Vector EventRecord 26) (j : Fin 26) :
    (clearNamedEvents kinds v)[j] = if j.val ∈ kinds then clearedRecord v[j] else v[j] := by
  simp [clearNamedEvents]

theorem clearEvents_events (kinds : List Nat) (s : State) :
    (clearEvents kinds s).control.events = clearNamedEvents kinds s.control.events := by
  unfold clearEvents
  dsimp only
  split <;> rfl

theorem clearEvents_eventLaw (kinds : List Nat) {s : State} (h : EventLaw s.control) :
    EventLaw (clearEvents kinds s).control := by
  rw [eventLaw_iff]
  intro j
  rw [clearEvents_events, clearNamedEvents_getElem]
  split
  · exact eventRecordLaw_cleared (h j)
  · exact h j

/-- An action level given to a kind that is not fixed (R144). -/
theorem setActionLevel_eventLaw (k : Fin 26) (v : Nat) {s : State} (h : EventLaw s.control) :
    EventLaw (setActionLevel k v s).state.control := by
  unfold setActionLevel
  split
  · split
    · exact h
    · rename_i hfixed
      obtain ⟨hflag, hcount, -⟩ := h k
      have he : EventRecordLaw k { s.control.events[k] with level := ‹Level› } :=
        ⟨hflag, hcount, fun hf => absurd hf hfixed⟩
      exact eventLaw_set h he rfl
  · exact h

theorem performCommand_eventLaw (c : Command) {s : State} (h : EventLaw s.control) :
    EventLaw (performCommand c s).state.control := by
  cases c <;> simp only [performCommand]
  case configure p i v =>
    rcases cmdConfigure_state p i v s with he | ⟨t, -, -, he⟩ <;> rw [he]
    · exact h
    · cases t with
      | plain p => simpa [setTarget] using h
      | enable n =>
        simp only [setTarget]
        unfold setInputEnable
        split <;> exact h
      | edge n =>
        simp only [setTarget]
        unfold setInputEdge
        split <;> exact h
      | level k => exact setActionLevel_eventLaw k _ h
  case run | resume | idle => exact eventLaw_of_events h (by simp)
  case clearEvents kinds =>
    unfold cmdClearEvents
    split
    · exact clearEvents_eventLaw _ h
    · exact h
  case reset =>
    rw [eventLaw_iff]
    intro j
    have hj : (cmdReset s).state.control.events[j] = clearedRecord s.control.events[j] := by
      simp [cmdReset, accept, resetNode, resetControl, clearAllEvents, resetHealth, beginSizing, resetAdmission]
    rw [hj]
    exact eventRecordLaw_cleared (h j)
  all_goals simpa [cmdConfigureUnknown, refuse] using h

/-- The fixed kinds are at STOP from power-on (R142). -/
theorem defaultLevel_of_fixed : ∀ k : Fin 26, levelFixed k = true → defaultLevel k = .stop := by decide

theorem step_eventLaw {s t : State} (hs : EventLaw s.control) (hstep : step s = .next t) : EventLaw t.control := by
  refine step_keeps (P := fun s => EventLaw s.control) (port := fun _ _ h => h) (pending := fun _ _ h => h)
    (event := fun k _ h => eventLaw_raise k h) (power := ?power) (lines := ?lines)
    (lost := fun _ h _ => loseIndex_keeps (P := fun s => EventLaw s.control) (fun _ _ h => h) (fun _ _ h => h)
      (fun k _ h => eventLaw_raise k h) _ h)
    (capture := fun _ h => h)
    (input := fun level _ h => inputZero_keeps (P := fun s => EventLaw s.control) (fun _ _ h => h) level h)
    (inputs := fun n level _ h => inputLevel_keeps (P := fun s => EventLaw s.control) (fun _ _ h => h)
      (fun k _ h => eventLaw_raise k h) n level h)
    (row := fun _ row _ h _ _ => acceptRow_keeps (P := fun s => EventLaw s.control) (fun _ _ h => h) (fun _ _ h => h)
      (fun _ _ h => h) (fun k _ h => eventLaw_raise k h) row h)
    (command := fun c _ h _ => performCommand_eventLaw c h) (flush := fun _ h => by simpa using h)
    (marker := fun c p _ h => endMarkerPass_keeps (P := fun s => EventLaw s.control) (fun _ _ _ _ h => h)
      (fun k _ h => eventLaw_raise k h) (fun _ _ _ _ h => h) c p h)
    (record := fun _ h => recordDone_keeps (P := fun s => EventLaw s.control) (fun _ _ h => h) (fun _ _ h => h)
      (fun k _ h => eventLaw_raise k h) h)
    (shift := fun status _ h => endShift_keeps (P := fun s => EventLaw s.control) (fun _ _ _ h => h)
      (fun latch c k w _ h => takeWord_keeps (P := fun s => EventLaw s.control) (fun _ _ h => h)
        (fun k _ h => eventLaw_raise k h) (fun _ _ h => h) (fun _ _ h => h) latch c k w h)
      (fun _ h => startPending_keeps (P := fun s => EventLaw s.control) (fun _ _ h => h) h) status h)
    (rest := fun _ _ _ h => by simpa using h) (time := fun _ h => h) hs hstep
  case power =>
    intro s _ k
    have hk : (powerOnNode s).control.events[k] = { flag := false, count := 0, level := defaultLevel k } := by
      simp [powerOnNode, State.reset]
    rw [hk]
    exact ⟨by simp, Nat.zero_le _, defaultLevel_of_fixed k⟩
  case lines =>
    exact fun a b z s hs => encoderLines_keeps (P := fun s => EventLaw s.control) (fun _ _ h => h) (fun _ _ h => h)
      (fun k _ h => eventLaw_raise k h)
      (fun _ h _ => storeForward_keeps (P := fun s => EventLaw s.control) (fun _ _ h => h) (fun _ _ h => h)
        (fun k _ h => eventLaw_raise k h) h)
      (fun _ h _ => storeReverse_keeps (P := fun s => EventLaw s.control) (fun _ _ h => h) (fun _ _ h => h)
        (fun k _ h => eventLaw_raise k h) h) a b z s hs

/-! ## Steps that move the node by raises alone -/

/-- Some flag of level STOP is set. -/
def StopFlag (s : State) : Prop := ∃ k : Fin 26, s.control.events[k].flag = true ∧ s.control.events[k].level = .stop

theorem stopFlag_raise (k : EventKind) {s : State} (h : StopFlag s) : StopFlag (raise k s) := by
  obtain ⟨j, hflag, hlevel⟩ := h
  refine ⟨j, ?_⟩
  by_cases hj : j = kindNumber k
  · rw [hj, raise_events_self]
    exact ⟨rfl, hj ▸ hlevel⟩
  · rw [raise_events_of_ne hj]
    exact ⟨hflag, hlevel⟩

/-- From `s` to `t` the node state is kept, or a running node was halted and a STOP-level flag shows why. -/
def NodeKept (s t : State) : Prop :=
  t.control.node = s.control.node ∨ (s.control.node = .run ∧ t.control.node = .halt ∧ StopFlag t)

theorem nodeKept_refl (s : State) : NodeKept s s := .inl rfl

theorem nodeKept_raise (k : EventKind) {s t : State} (h : NodeKept s t) : NodeKept s (raise k t) := by
  by_cases hstop : t.control.events[kindNumber k].level = .stop ∧ t.control.node = .run
  · obtain ⟨hlevel, hrun⟩ := hstop
    have hs : s.control.node = .run := by
      rcases h with h | ⟨h, -, -⟩
      · rw [← h, hrun]
      · exact h
    refine .inr ⟨hs, raise_node_of_stop hlevel hrun, kindNumber k, ?_⟩
    rw [raise_events_self]
    exact ⟨rfl, hlevel⟩
  · have hnode := raise_node_of_not_stop hstop
    rcases h with h | ⟨hs, ht, hflag⟩
    · exact .inl (hnode.trans h)
    · exact .inr ⟨hs, hnode.trans ht, stopFlag_raise k hflag⟩

/-! ## The moves the statement allows -/

/-- The moves of the node state that the state machine allows (R135-R140). -/
def NodeMoves (s t : State) : Prop :=
  (t.control.node = .halt → s.control.node ≠ .halt → s.control.node = .run ∧ StopFlag t) ∧
    (t.control.node = .run → s.control.node ≠ .run →
      (s.control.node = .idle ∧ s.tracker.angleValid = true ∧ 0 < s.tables.width ∧ anyPresent s = true) ∨
        (s.control.node = .halt ∧ stopHold s = false)) ∧
    (s.control.node = .init → t.control.node ≠ .init →
      t.control.node = .idle ∧ (∃ v, s.selector.sizing = .marker v) ∧ t.selector.sizing = .done)

theorem nodeMoves_of_kept {s t : State} (h : NodeKept s t) : NodeMoves s t := by
  rcases h with h | ⟨hs, ht, hflag⟩
  · exact ⟨fun h1 h2 => absurd (h ▸ h1) h2, fun h1 h2 => absurd (h ▸ h1) h2, fun h1 h2 => absurd (h.trans h1) h2⟩
  · exact ⟨fun _ _ => ⟨hs, hflag⟩, fun h1 => by simp [ht] at h1, fun h1 => by simp [hs] at h1⟩

theorem nodeMoves_of_init {s t : State} (h : t.control.node = .init) : NodeMoves s t := by
  simp [NodeMoves, h]

theorem nodeMoves_of_idle {s t : State} (h : t.control.node = .idle) (hs : s.control.node ≠ .init) : NodeMoves s t := by
  simp [NodeMoves, h, hs]

/-- Entry to RUN under the conditions of RUN or of RESUME (R136, R138). -/
theorem nodeMoves_of_run {s t : State} (h : t.control.node = .run) (hs : s.control.node ≠ .init)
    (hwhy : (s.control.node = .idle ∧ s.tracker.angleValid = true ∧ 0 < s.tables.width ∧ anyPresent s = true) ∨
      (s.control.node = .halt ∧ stopHold s = false)) : NodeMoves s t := by
  simp [NodeMoves, h, hs, hwhy]

/-! ## The moves of each kind of step -/

theorem performCommand_moves (c : Command) {s : State}
    (hinit : s.control.node = .init → (isQuery c || isReset c) = true) : NodeMoves s (performCommand c s).state := by
  cases c
  case run =>
    simp only [performCommand, cmdRun]
    split
    · rename_i hc
      exact nodeMoves_of_run rfl (by simp [hc.1]) (.inl hc)
    · exact nodeMoves_of_kept (nodeKept_refl s)
  case resume =>
    simp only [performCommand, cmdResume]
    split
    · rename_i hc
      exact nodeMoves_of_run rfl (by simp [hc.1]) (.inr hc)
    · exact nodeMoves_of_kept (nodeKept_refl s)
  case idle =>
    simp only [performCommand, cmdIdle, accept]
    split
    · rename_i hw
      exact nodeMoves_of_idle (by simp [enterIdle, setNode]) (not_init_of_weaving hw)
    · exact nodeMoves_of_kept (nodeKept_refl s)
  case reset => exact nodeMoves_of_init (by simp [performCommand, cmdReset, accept, resetNode, resetControl])
  all_goals exact nodeMoves_of_kept (.inl (by simp [performCommand, cmdConfigureUnknown, refuse]))

theorem encoderLines_kept (a b z : Bool) (s : State) : NodeKept s (encoderLines a b z s) :=
  encoderLines_keeps (P := NodeKept s) (fun _ _ h => h) (fun _ _ h => h) (fun k _ h => nodeKept_raise k h)
    (fun _ h _ => storeForward_keeps (P := NodeKept s) (fun _ _ h => h) (fun _ _ h => h)
      (fun k _ h => nodeKept_raise k h) h)
    (fun _ h _ => storeReverse_keeps (P := NodeKept s) (fun _ _ h => h) (fun _ _ h => h)
      (fun k _ h => nodeKept_raise k h) h) a b z s (nodeKept_refl s)

theorem recordDone_kept (s : State) : NodeKept s (recordDone s) :=
  recordDone_keeps (P := NodeKept s) (fun _ _ h => h) (fun _ _ h => h) (fun k _ h => nodeKept_raise k h) (nodeKept_refl s)

theorem endShift_kept (status : List (List StatusWord)) (s : State) : NodeKept s (endShift status s) :=
  endShift_keeps (P := NodeKept s) (fun _ _ _ h => h)
    (fun latch c k w _ h => takeWord_keeps (P := NodeKept s) (fun _ _ h => h) (fun k _ h => nodeKept_raise k h)
      (fun _ _ h => h) (fun _ _ h => h) latch c k w h)
    (fun _ h => startPending_keeps (P := NodeKept s) (fun _ _ h => h) h) status (nodeKept_refl s)

/-- The end of a marker pass raises CHAIN_SIZE at most, or completes the sizing and enters IDLE (R102). -/
theorem endMarkerPass_moves (c : Fin 6) (p : Option (Fin 4096)) (s : State) : NodeMoves s (endMarkerPass c p s) := by
  cases hsizing : s.selector.sizing with
  | marker w =>
    have key : NodeKept s (endMarkerPass c p s) ∨
        ((endMarkerPass c p s).control.node = .idle ∧ (endMarkerPass c p s).selector.sizing = .done) := by
      unfold endMarkerPass
      simp only [hsizing]
      split
      · exact .inl (nodeKept_refl s)
      · unfold completeIfAll
        split
        · exact .inr ⟨rfl, rfl⟩
        · left
          split
          · exact nodeKept_raise _ (nodeKept_refl s)
          · exact nodeKept_refl s
    rcases key with h | ⟨hidle, hdone⟩
    · exact nodeMoves_of_kept h
    · exact ⟨fun h => by simp [hidle] at h, fun h => by simp [hidle] at h, fun _ _ => ⟨hidle, ⟨w, hsizing⟩, hdone⟩⟩
  | flush =>
    have h : endMarkerPass c p s = s := by simp [endMarkerPass, hsizing]
    exact nodeMoves_of_kept (.inl (by rw [h]))
  | done =>
    have h : endMarkerPass c p s = s := by simp [endMarkerPass, hsizing]
    exact nodeMoves_of_kept (.inl (by rw [h]))

theorem actDesign_moves (f : Frame) (s : State) : NodeMoves s (actDesign f s).state := by
  unfold actDesign
  split
  · exact nodeMoves_of_kept (nodeKept_refl s)
  · refine nodeMoves_of_kept ?_
    show NodeKept s (applyDesign (judgeDesign f.body s) f.body s)
    rcases applyDesign_state f.body s with h | h | ⟨row, -, -, h⟩ <;> rw [h]
    · exact nodeKept_refl s
    · exact nodeKept_raise _ (nodeKept_refl s)
    · exact acceptRow_keeps (P := NodeKept s) (fun _ _ h => h) (fun _ _ h => h) (fun _ _ h => h)
        (fun k _ h => nodeKept_raise k h) row (nodeKept_refl s)

theorem actCommand_moves (f : Frame) (c : Option Command) (s : State) : NodeMoves s (actCommand f c s).state := by
  rcases actCommand_state f c s with h | ⟨x, -, hinit, h⟩ <;> rw [h]
  · exact nodeMoves_of_kept (nodeKept_refl s)
  · exact performCommand_moves x hinit

theorem actEnumerate_control (f : Frame) (s : State) : (actEnumerate f s).state.control = s.control := by
  unfold actEnumerate
  split
  · rfl
  · split
    · split <;> rfl
    · unfold takeNumber
      split <;> rfl

theorem actFrame_moves (f : Frame) (s : State) : NodeMoves s (actFrame f s).state := by
  unfold actFrame
  split
  · exact actDesign_moves f s
  · split
    · exact actCommand_moves f _ s
    · split
      · exact nodeMoves_of_kept (.inl (by rw [actEnumerate_control]))
      · exact nodeMoves_of_kept (nodeKept_refl s)

theorem abandonFrame_kept (i : StoreId) (r : AbandonReason) (bytes : List Byte) (s : State) :
    NodeKept s (abandonFrame i r bytes s) :=
  nodeKept_raise .frameAbandoned (nodeKept_refl s)

theorem finishFrame_moves (i : StoreId) (s : State) : NodeMoves s (finishFrame i s) := by
  unfold finishFrame
  split
  · split
    · exact actFrame_moves _ s
    · exact nodeMoves_of_kept (abandonFrame_kept _ _ _ s)
  all_goals exact nodeMoves_of_kept (nodeKept_refl s)

/-- A store whose frame is marked with a line-code error is not FILLING, or its frame is bad. -/
theorem finishFrame_marked_kept (i : StoreId) (s : State) :
    NodeKept s (finishFrame i (s.setPort (markLineError i (stopReceiving s.port)))) := by
  unfold finishFrame
  simp only [setPort_port, markLineError, getStore_putStore, getStore_stopReceiving]
  cases h : getStore s.port i <;> simp only [storeSymbol]
  case filling bytes long bad => exact abandonFrame_kept i .line bytes s
  all_goals exact nodeKept_refl s

theorem cutShort_kept (s : State) : NodeKept s (cutShort s) := by
  unfold cutShort
  split
  · exact nodeKept_refl s
  · exact nodeKept_refl s
  · exact finishFrame_marked_kept _ s

theorem beginFrame_kept {s t : State} (h : NodeKept s t) : NodeKept s (beginFrame t) := by
  unfold beginFrame
  split
  · exact h
  · exact nodeKept_raise _ h

theorem expireReception_kept (s : State) : NodeKept s (expireReception s) := by
  unfold expireReception
  split
  · exact nodeKept_refl s
  · exact nodeKept_raise _ (nodeKept_refl s)
  · exact nodeKept_raise _ (nodeKept_refl s)

theorem tick_kept (s : State) : NodeKept s (tick s) := by
  unfold tick tickReception
  split
  · exact nodeKept_refl s
  · split
    · exact expireReception_kept ((s.setTracker (tickTimer s.tracker)).setHealth (tickHealth s.health))
    · exact nodeKept_refl s

theorem endDelimiter_moves (s : State) : NodeMoves s (endDelimiter s) := by
  unfold endDelimiter
  split
  · exact nodeMoves_of_kept (nodeKept_refl s)
  · exact nodeMoves_of_kept (nodeKept_refl s)
  · exact finishFrame_moves _ (s.setPort (stopReceiving s.port))

theorem exec_moves (i : Instr) {s t : State} (h : exec i s = .next t) : NodeMoves s t := by
  cases i <;> obtain rfl := Host.Outcome.next.inj h
  case powerOn => exact nodeMoves_of_init rfl
  case encoderStep => exact nodeMoves_of_kept (encoderLines_kept _ _ _ s)
  case indexLost =>
    split
    · exact nodeMoves_of_kept (nodeKept_raise .indexLost (nodeKept_refl s))
    · exact nodeMoves_of_kept (nodeKept_refl s)
  case captureExpiry => exact nodeMoves_of_kept (nodeKept_refl s)
  case loomInput0Edge level =>
    exact nodeMoves_of_kept (inputZero_keeps (P := NodeKept s) (fun _ _ h => h) level (nodeKept_refl s))
  case loomInputEdge n level =>
    exact nodeMoves_of_kept
      (inputLevel_keeps (P := NodeKept s) (fun _ _ h => h) (fun k _ h => nodeKept_raise k h) n level (nodeKept_refl s))
  case startDelimiter symbols =>
    exact nodeMoves_of_kept (beginFrame_kept (cutShort_kept (s.setPort (receiveSymbols symbols s.port))))
  case frameEnd symbols => exact endDelimiter_moves (s.setPort (receiveSymbols symbols s.port))
  case receptionTimeout symbols =>
    exact nodeMoves_of_kept (expireReception_kept (s.setPort (receiveSymbols symbols s.port)))
  case transmitStart => exact nodeMoves_of_kept (.inl (by simp))
  case transmitEnd => exact nodeMoves_of_kept (nodeKept_refl s)
  case designFrame => exact actDesign_moves _ s
  case enumerate => exact nodeMoves_of_kept (.inl (congrArg Control.node (actEnumerate_control _ s)))
  case sizingFlushEnd => exact nodeMoves_of_kept (.inl (by simp))
  case markerPassEnd c p => exact endMarkerPass_moves c p s
  case expansionRecordDone => exact nodeMoves_of_kept (recordDone_kept s)
  case shiftEnd status => exact nodeMoves_of_kept (endShift_kept status s)
  case restTimerExpiry => exact nodeMoves_of_kept (.inl (by simp))
  all_goals exact actCommand_moves _ _ s

theorem step_moves {s t : State} (h : step s = .next t) : NodeMoves s t := by
  unfold step at h
  split at h
  · obtain rfl := Host.Outcome.next.inj h
    exact nodeMoves_of_kept (tick_kept s)
  · rename_i c rest _
    exact exec_moves (s := s.setPending rest) c h

/-- Settles O59: a raise keeps the record of every kind lawful and moves the node from RUN to HALT alone; each other move is
that of one command, of power-on, or of the end of sizing. -/
theorem eventLawAndNodeMoves : Obligations.EventLawAndNodeMoves := by
  unfold Obligations.EventLawAndNodeMoves
  exact fun s t hstep => ⟨fun hs => step_eventLaw hs hstep, step_moves hstep⟩

end Sys2Proof.Proofs.RunControl

/-! PROOFS. The frame stores, the receiver and the node number under every step (R154-R161). Every operation of the Ring Port
changes one store; the law of the others is carried over by one lemma. -/

namespace Sys2Proof.Proofs.PortLaws

open Sys2Proof Sys2Proof.Machine Sys2Proof.Proofs.Keeps Sys2Proof.Proofs.RunControl

@[simp] theorem stopReceiving_receiver (p : RingPort) : (stopReceiving p).receiver = .waiting := rfl

@[simp] theorem stopReceiving_heldOrder (p : RingPort) : (stopReceiving p).heldOrder = p.heldOrder := rfl

@[simp] theorem stopReceiving_rxTimer (p : RingPort) : (stopReceiving p).rxTimer = none := rfl

theorem getStore_congr {p q : RingPort} (hA : q.storeA = p.storeA) (hB : q.storeB = p.storeB) (i : StoreId) :
    getStore q i = getStore p i := by
  cases i
  · exact hA
  · exact hB

/-! ## The law store by store -/

/-- The law of frame store `i` holding `x`, for a receiver and a sending order. -/
def StoreOk (r : Receiver) (order : List StoreId) (i : StoreId) (x : FrameStore) : Prop :=
  (isFilling x = true ↔ r = .receiving i) ∧ (isHeld x = true ↔ i ∈ order) ∧ (storedBytes x).length ≤ 2048

theorem storeOk_of_portLaw {p : RingPort} (h : PortLaw p) (i : StoreId) :
    StoreOk p.receiver p.heldOrder i (getStore p i) := by
  obtain ⟨hfill, hheld, -, -, hlen, -⟩ := h
  exact ⟨hfill i, hheld i, hlen i⟩

theorem portLaw_of_eq {p q : RingPort} (h : PortLaw p) (hstores : ∀ i, getStore q i = getStore p i)
    (hreceiver : q.receiver = p.receiver) (horder : q.heldOrder = p.heldOrder)
    (htimer : q.rxTimer = none ↔ p.rxTimer = none) : PortLaw q := by
  have hA : q.storeA = p.storeA := hstores .A
  have hB : q.storeB = p.storeB := hstores .B
  simpa only [PortLaw, hstores, hreceiver, horder, htimer, hA, hB] using h

/-- A change of store `i` alone keeps the law when the new contents, the receiver and the sending order agree. -/
theorem portLaw_put {p q : RingPort} {i : StoreId} (h : PortLaw p)
    (hkept : ∀ j, j ≠ i → getStore q j = getStore p j)
    (hi : StoreOk q.receiver q.heldOrder i (getStore q i))
    (hreceiver : ∀ j, j ≠ i → (q.receiver = .receiving j ↔ p.receiver = .receiving j))
    (horder : ∀ j, j ≠ i → (j ∈ q.heldOrder ↔ j ∈ p.heldOrder)) (hnodup : q.heldOrder.Nodup)
    (hsend : isSending (getStore q i) = true → transmitterFree p = true)
    (htimer : q.rxTimer = none ↔ q.receiver = .waiting) : PortLaw q := by
  have hall : ∀ j, StoreOk q.receiver q.heldOrder j (getStore q j) := by
    intro j
    by_cases hj : j = i
    · exact hj ▸ hi
    · have hp := storeOk_of_portLaw h j
      rwa [StoreOk, hkept j hj, hreceiver j hj, horder j hj]
  refine ⟨fun j => (hall j).1, fun j => (hall j).2.1, hnodup, ?_, fun j => (hall j).2.2, htimer⟩
  rintro ⟨hA, hB⟩
  obtain ⟨-, -, -, hone, -, -⟩ := h
  cases i with
  | A =>
    have hpB : isSending p.storeB = true := by rw [← hB]; exact congrArg isSending (hkept .B (by decide)).symm
    exact absurd (hsend hA) (by simp [transmitterFree, hpB])
  | B =>
    have hpA : isSending p.storeA = true := by rw [← hA]; exact congrArg isSending (hkept .A (by decide)).symm
    exact absurd (hsend hB) (by simp [transmitterFree, hpA])

theorem filling_of_receiving {p : RingPort} {i : StoreId} (h : PortLaw p) (hr : p.receiver = .receiving i) :
    ∃ bytes long bad, getStore p i = .filling bytes long bad ∧ bytes.length ≤ 2048 := by
  obtain ⟨hfill, -, hlen⟩ := storeOk_of_portLaw h i
  have hf := hfill.mpr hr
  cases hx : getStore p i with
  | filling bytes long bad => exact ⟨bytes, long, bad, rfl, by simpa [hx, storedBytes] using hlen⟩
  | free => simp [hx, isFilling] at hf
  | held bytes => simp [hx, isFilling] at hf
  | sending bytes => simp [hx, isFilling] at hf

theorem not_mem_heldOrder_of_receiving {p : RingPort} {i : StoreId} (h : PortLaw p) (hr : p.receiver = .receiving i) :
    i ∉ p.heldOrder := by
  obtain ⟨bytes, long, bad, hx, -⟩ := filling_of_receiving h hr
  obtain ⟨-, hheld, -⟩ := storeOk_of_portLaw h i
  rw [← hheld, hx]
  simp [isHeld]

/-! ## Receiving -/

/-- New contents of the store being filled. -/
theorem portLaw_refill {p : RingPort} {i : StoreId} {bytes : List Byte} (long bad : Bool) (h : PortLaw p)
    (hr : p.receiver = .receiving i) (hlen : bytes.length ≤ 2048) :
    PortLaw (putStore i (.filling bytes long bad) p) := by
  have hnot := not_mem_heldOrder_of_receiving h hr
  obtain ⟨-, -, hnodup, -, -, htimer⟩ := id h
  refine portLaw_put h (i := i) (fun j hj => getStore_putStore_ne hj _ _) ?_ (by simp) (by simp) (by simpa using hnodup)
    (by simp [isSending]) (by simpa using htimer)
  simp [StoreOk, isFilling, isHeld, storedBytes, hr, hnot, hlen]

theorem receiveSymbols_portLaw (symbols : List LineSymbol) {p : RingPort} (h : PortLaw p) :
    PortLaw (receiveSymbols symbols p) := by
  unfold receiveSymbols
  split
  · rename_i i hr
    obtain ⟨bytes, long, bad, hx, hlen⟩ := filling_of_receiving h hr
    rw [hx, foldl_storeSymbol symbols bytes long bad hlen]
    exact portLaw_refill _ _ h hr (List.length_take_le _ _)
  · exact h
  · exact h

theorem markLineError_portLaw {p : RingPort} {i : StoreId} (h : PortLaw p) (hr : p.receiver = .receiving i) :
    PortLaw (markLineError i p) := by
  obtain ⟨bytes, long, bad, hx, hlen⟩ := filling_of_receiving h hr
  unfold markLineError
  rw [hx]
  exact portLaw_refill long true h hr hlen

/-- A frame that is not being stored ends. -/
theorem stopReceiving_portLaw {p : RingPort} (h : PortLaw p) (hr : p.receiver = .discarding) :
    PortLaw (stopReceiving p) := by
  obtain ⟨hfill, hheld, hnodup, hone, hlen, -⟩ := h
  refine ⟨fun i => ?_, fun i => by simpa using hheld i, hnodup, hone, fun i => by simpa using hlen i, by simp⟩
  simpa [hr] using hfill i

/-- The store that was being filled takes other contents as the reception ends. -/
theorem portLaw_ended {p q : RingPort} {i : StoreId} (h : PortLaw p) (hr : p.receiver = .receiving i)
    (hkept : ∀ j, j ≠ i → getStore q j = getStore p j) (hi : StoreOk .waiting q.heldOrder i (getStore q i))
    (hsend : isSending (getStore q i) = false) (hw : q.receiver = .waiting)
    (horder : ∀ j, j ≠ i → (j ∈ q.heldOrder ↔ j ∈ p.heldOrder)) (hnodup : q.heldOrder.Nodup) (htimer : q.rxTimer = none) :
    PortLaw q := by
  refine portLaw_put h hkept (hw.symm ▸ hi) (fun j hj => ?_) horder hnodup (by simp [hsend]) (by simp [hw, htimer])
  simp [hw, hr, Ne.symm hj]

theorem holdFrame_portLaw {p : RingPort} {i : StoreId} {bytes : List Byte} (h : PortLaw p)
    (hr : p.receiver = .receiving i) (hlen : bytes.length ≤ 2048) : PortLaw (holdFrame i bytes (stopReceiving p)) := by
  have hnot := not_mem_heldOrder_of_receiving h hr
  obtain ⟨-, -, hnodup, -⟩ := id h
  have hget : ∀ j, getStore (holdFrame i bytes (stopReceiving p)) j = getStore (putStore i (.held bytes) p) j := by
    intro j
    cases i <;> cases j <;> rfl
  have horder : (holdFrame i bytes (stopReceiving p)).heldOrder = p.heldOrder ++ [i] := rfl
  refine portLaw_ended h hr (fun j hj => ?_) ?_ ?_ ?_ (fun j hj => ?_) ?_ ?_
  · rw [hget, getStore_putStore_ne hj]
  · rw [hget, horder]
    simpa [StoreOk, isFilling, isHeld, storedBytes] using hlen
  · simp [hget, isSending]
  · cases i <;> rfl
  · simp [horder, hj]
  · rw [horder]
    exact List.nodup_append.mpr ⟨hnodup, List.nodup_singleton i, by simpa using fun a ha hai => hnot (by rwa [← hai])⟩
  · cases i <;> rfl

theorem freed_portLaw {p : RingPort} {i : StoreId} (h : PortLaw p) (hr : p.receiver = .receiving i) :
    PortLaw (putStore i .free (stopReceiving p)) := by
  have hnot := not_mem_heldOrder_of_receiving h hr
  obtain ⟨-, -, hnodup, -⟩ := id h
  refine portLaw_ended h hr (fun j hj => ?_) ?_ ?_ ?_ (fun j hj => ?_) ?_ ?_
  · rw [getStore_putStore_ne hj, getStore_stopReceiving]
  · simpa [StoreOk, isFilling, isHeld, storedBytes] using hnot
  · simp [isSending]
  · simp
  · simp
  · simpa using hnodup
  · simp

/-! ## What acting on a frame leaves in the Ring Port -/

theorem actCommand_port (f : Frame) (c : Option Command) (s : State) : (actCommand f c s).state.port = s.port := by
  rcases actCommand_state f c s with h | ⟨x, -, -, h⟩ <;> simp [h]

theorem actDesign_port (f : Frame) (s : State) : (actDesign f s).state.port = s.port := by
  unfold actDesign
  split
  · rfl
  · show (applyDesign (judgeDesign f.body s) f.body s).port = s.port
    rcases applyDesign_state f.body s with h | h | ⟨row, -, -, h⟩ <;> simp [h]

/-- An ENUMERATE changes the node number alone. -/
theorem actEnumerate_port (f : Frame) (s : State) : ∃ n, (actEnumerate f s).state.port = { s.port with number := n } := by
  unfold actEnumerate
  split
  · exact ⟨_, rfl⟩
  · split
    · split <;> exact ⟨_, rfl⟩
    · unfold takeNumber
      split <;> exact ⟨_, rfl⟩

theorem actFrame_port (f : Frame) (s : State) : ∃ n, (actFrame f s).state.port = { s.port with number := n } := by
  unfold actFrame
  split
  · exact ⟨s.port.number, actDesign_port f s⟩
  · split
    · exact ⟨s.port.number, actCommand_port f _ s⟩
    · split
      · exact actEnumerate_port f s
      · exact ⟨s.port.number, rfl⟩

theorem replySpace_le (c : Option Command) (n : Nat) : replySpace c n ≤ n := by
  unfold replySpace
  split <;> omega

/-- No action makes a frame longer (R161, R164). -/
theorem actFrame_length (f : Frame) (s : State) : (actFrame f s).frame.body.length ≤ f.body.length := by
  unfold actFrame
  split
  · unfold actDesign
    split <;> exact le_rfl
  · split
    · unfold actCommand
      split
      · exact le_rfl
      · split
        · exact le_rfl
        · split
          · exact (List.length_take_le _ _).trans (replySpace_le _ _)
          · exact le_rfl
    · split
      · unfold actEnumerate
        split
        · exact le_rfl
        · rename_i hbody
          split
          · split <;> exact le_rfl
          · unfold takeNumber
            split <;> simp [hbody, stampSlot, forward]
      · exact le_rfl

theorem checkBytes_length {bytes : List Byte} {f : Frame} (h : checkBytes bytes = .good f) :
    16 + f.body.length ≤ bytes.length := by
  unfold checkBytes at h
  split at h
  · split at h
    · rename_i hrest
      split at h
      · obtain rfl := FrameCheck.good.inj h
        simp only [List.length_cons, List.length_take]
        omega
      · cases h
    · cases h
  · cases h

theorem checkFrame_length {bytes : List Byte} {long bad : Bool} {f : Frame} (h : checkFrame bytes long bad = .good f) :
    16 + f.body.length ≤ bytes.length := by
  unfold checkFrame at h
  split at h
  · cases h
  · split at h
    · cases h
    · exact checkBytes_length h

/-! ## The node number -/

theorem numberLaw_of_some {t : State} {n : Fin 4} (h : t.port.number = some n) : NumberLaw t := by
  simp [NumberLaw, h]

theorem numberLaw_of_init_idle {t : State} (h : t.control.node = .init ∨ t.control.node = .idle) : NumberLaw t :=
  fun _ => h

theorem numberLaw_of_kept {s t : State} (h : NumberLaw s) (hnumber : t.port.number = s.port.number)
    (hkept : NodeKept s t) : NumberLaw t := by
  intro hn
  have hs := h (hnumber ▸ hn)
  rcases hkept with hk | ⟨hrun, -, -⟩
  · exact hk ▸ hs
  · simp [hrun] at hs

theorem init_or_idle_of_not_weaving {s : State} (h : ¬weaving s = true) :
    s.control.node = .init ∨ s.control.node = .idle := by
  cases hn : s.control.node <;> simp_all [weaving]

theorem actCommand_numberLaw (f : Frame) (c : Option Command) {s : State} (h : NumberLaw s) :
    NumberLaw (actCommand f c s).state := by
  cases hn : s.port.number with
  | none => simpa [actCommand, hn, forward] using h
  | some n => exact numberLaw_of_some ((congrArg RingPort.number (actCommand_port f c s)).trans hn)

theorem actDesign_numberLaw (f : Frame) {s : State} (h : NumberLaw s) : NumberLaw (actDesign f s).state := by
  cases hn : s.port.number with
  | none => simpa [actDesign, hn, forward] using h
  | some n => exact numberLaw_of_some ((congrArg RingPort.number (actDesign_port f s)).trans hn)

theorem actEnumerate_numberLaw (f : Frame) {s : State} (h : NumberLaw s) : NumberLaw (actEnumerate f s).state := by
  unfold actEnumerate
  split
  · exact h
  · split
    · split <;> exact h
    · rename_i hw
      refine numberLaw_of_init_idle ?_
      unfold takeNumber
      split <;> exact init_or_idle_of_not_weaving hw

theorem actFrame_numberLaw (f : Frame) {s : State} (h : NumberLaw s) : NumberLaw (actFrame f s).state := by
  unfold actFrame
  split
  · exact actDesign_numberLaw f h
  · split
    · exact actCommand_numberLaw f _ h
    · split
      · exact actEnumerate_numberLaw f h
      · exact h

/-! ## The steps of the Ring Port -/

/-- The two laws together. -/
def PortOk (s : State) : Prop := PortLaw s.port ∧ NumberLaw s

theorem portOk_setPort {s : State} {x : RingPort} (hx : PortLaw x) (hnumber : x.number = s.port.number)
    (h : NumberLaw s) : PortOk (s.setPort x) :=
  ⟨hx, fun hn => h (hnumber ▸ hn)⟩

theorem portOk_raise (k : EventKind) {s : State} (h : PortOk s) : PortOk (raise k s) :=
  ⟨h.1, numberLaw_of_kept h.2 rfl (nodeKept_raise k (nodeKept_refl s))⟩

theorem portOk_of_kept {s t : State} (h : PortOk s) (hport : t.port = s.port) (hkept : NodeKept s t) : PortOk t :=
  ⟨hport ▸ h.1, numberLaw_of_kept h.2 (hport ▸ rfl) hkept⟩

theorem holdFrame_number (i : StoreId) (bytes : List Byte) (p : RingPort) :
    (holdFrame i bytes p).number = p.number := by
  cases i <;> rfl

/-- The end of a frame that was being stored in `p`, the reception stopped. -/
theorem finishFrame_portOk {p : RingPort} {i : StoreId} {s : State} (h : PortLaw p) (hr : p.receiver = .receiving i)
    (hs : s.port = stopReceiving p) (hn : NumberLaw s) : PortOk (finishFrame i s) := by
  obtain ⟨bytes, long, bad, hx, hlen⟩ := filling_of_receiving h hr
  have hget : getStore s.port i = .filling bytes long bad := by rw [hs, getStore_stopReceiving, hx]
  unfold finishFrame
  simp only [hget]
  split
  · rename_i f hgood
    obtain ⟨n, hport⟩ := actFrame_port f s
    have hlength : (frameBytes (actFrame f s).frame).length ≤ 2048 := by
      have h1 := checkFrame_length hgood
      have h2 := actFrame_length f s
      rw [frameBytes_length]
      omega
    have hheld := holdFrame_portLaw h hr hlength
    have hnumber := actFrame_numberLaw f hn
    unfold actGoodFrame
    refine ⟨?_, fun hnone => hnumber ?_⟩
    · refine portLaw_of_eq hheld (fun j => ?_) ?_ ?_ ?_
      all_goals
        simp only [setPort_port, keepActed, hport, hs]
        cases i
      case A => cases j <;> rfl
      case B => cases j <;> rfl
      all_goals simp [holdFrame, putStore]
    · simpa [holdFrame_number, keepActed] using hnone
  · rename_i r _
    have hheld := holdFrame_portLaw h hr (bytes := frameBytes (abandonedFrame s.port.number r bytes))
      (by simp [abandonedFrame])
    have hraised := portOk_raise (s := s) .frameAbandoned
    unfold abandonFrame
    refine portOk_setPort (s := raise .frameAbandoned s) ?_ (holdFrame_number _ _ _)
      (numberLaw_of_kept hn rfl (nodeKept_raise .frameAbandoned (nodeKept_refl s)))
    show PortLaw (holdFrame i (frameBytes (abandonedFrame s.port.number r bytes)) s.port)
    rw [hs] at hheld ⊢
    exact hheld

theorem endDelimiter_portOk {s : State} (h : PortOk s) : PortOk (endDelimiter s) := by
  obtain ⟨hp, hn⟩ := id h
  unfold endDelimiter
  split
  · exact h
  · rename_i hr
    exact portOk_setPort (stopReceiving_portLaw hp hr) rfl hn
  · rename_i hr
    exact finishFrame_portOk hp hr rfl hn

theorem cutShort_portOk {s : State} (h : PortOk s) : PortOk (cutShort s) := by
  obtain ⟨hp, hn⟩ := id h
  unfold cutShort
  split
  · exact h
  · rename_i hr
    exact portOk_setPort (stopReceiving_portLaw hp hr) rfl hn
  · rename_i i hr
    refine finishFrame_portOk (markLineError_portLaw hp hr) (by simpa [markLineError] using hr) ?_ ?_
    · simp [markLineError]
    · simpa [NumberLaw, markLineError] using hn

/-- After a frame is cut short the receiver is WAITING (R154). -/
theorem cutShort_receiver (s : State) : (cutShort s).port.receiver = .waiting := by
  unfold cutShort
  split
  · assumption
  · rfl
  · rename_i i hr
    unfold finishFrame
    simp only [setPort_port, markLineError, getStore_putStore, getStore_stopReceiving]
    cases h : getStore s.port i <;> simp only [storeSymbol] <;> cases i <;> rfl

theorem freeStore_eq {p : RingPort} {i : StoreId} (h : freeStore p = some i) : getStore p i = .free := by
  unfold freeStore at h
  split at h
  · obtain rfl := Option.some.inj h
    assumption
  · split at h
    · obtain rfl := Option.some.inj h
      assumption
    · cases h

theorem beginFrame_portOk {s : State} (h : PortOk s) (hw : s.port.receiver = .waiting) : PortOk (beginFrame s) := by
  obtain ⟨hp, hn⟩ := h
  obtain ⟨hfill, hheld, hnodup, hone, hlen, -⟩ := id hp
  unfold beginFrame
  split
  · rename_i i hfree
    have hget : getStore { putStore i (.filling [] false false) s.port with
        receiver := .receiving i, rxTimer := some Config.receptionTime } i = .filling [] false false :=
      (getStore_congr rfl rfl i).trans (getStore_putStore i _ _)
    have hnot : i ∉ s.port.heldOrder := by
      rw [← hheld i, freeStore_eq hfree]
      simp [isHeld]
    refine portOk_setPort (portLaw_put (i := i) hp (fun j hj => ?_) ?_ (fun j hj => ?_) ?_ ?_ ?_ ?_) ?_ hn
    · exact (getStore_congr rfl rfl j).trans (getStore_putStore_ne hj (.filling [] false false) s.port)
    · rw [hget]
      simpa [StoreOk, isFilling, isHeld, storedBytes] using hnot
    · simp [hw, Ne.symm hj]
    · simp
    · simpa using hnodup
    · rw [hget]
      simp [isSending]
    · simp
    · simp
  · refine portOk_raise _ (portOk_setPort ⟨fun i => ?_, fun i => ?_, hnodup, hone, fun i => ?_, by simp⟩ rfl hn)
    · have := hfill i
      simp only [hw] at this
      cases i <;> simpa [getStore] using this
    · have := hheld i
      cases i <;> simpa [getStore] using this
    · have := hlen i
      cases i <;> simpa [getStore] using this

theorem expireReception_portOk {s : State} (h : PortOk s) : PortOk (expireReception s) := by
  obtain ⟨hp, hn⟩ := id h
  unfold expireReception
  split
  · exact h
  · rename_i hr
    exact portOk_raise _ (portOk_setPort (stopReceiving_portLaw hp hr) rfl hn)
  · rename_i hr
    exact portOk_raise _ (portOk_setPort (freed_portLaw hp hr) (by simp) hn)

theorem tick_portOk {s : State} (h : PortOk s) : PortOk (tick s) := by
  unfold tick tickReception
  split
  · exact h
  · rename_i left hleft
    split
    · exact expireReception_portOk h
    · refine portOk_setPort (portLaw_of_eq h.1 (fun i => by cases i <;> rfl) rfl rfl ?_) rfl h.2
      simp only [setHealth_port, setTracker_port] at hleft
      simp [hleft]

/-! ## Sending -/

theorem startSending_portOk {s : State} (h : PortOk s) : PortOk (startSending s) := by
  obtain ⟨hp, hn⟩ := id h
  obtain ⟨-, hheld, hnodup, -, hlen, htimer⟩ := id hp
  unfold startSending
  split
  · exact h
  · rename_i i rest horder
    rw [horder, List.nodup_cons] at hnodup
    split
    · rename_i hfree
      have hi : isHeld (getStore s.port i) = true := (hheld i).mpr (by simp [horder])
      obtain ⟨hfill, -, -⟩ := storeOk_of_portLaw hp i
      have hli := hlen i
      cases hx : getStore s.port i with
      | held bytes =>
        rw [hx] at hli
        simp only [hx, isFilling, Bool.false_eq_true, false_iff] at hfill
        have hget : getStore { putStore i (sendStore (.held bytes)) s.port with heldOrder := rest } i =
            .sending bytes := (getStore_congr rfl rfl i).trans (getStore_putStore i _ _)
        refine portOk_setPort (portLaw_put (i := i) hp (fun j hj => ?_) ?_ (by simp) (fun j hj => ?_) hnodup.2
          (fun _ => hfree) (by simpa using htimer)) (by simp) hn
        · exact (getStore_congr rfl rfl j).trans (getStore_putStore_ne hj _ _)
        · rw [hget]
          simpa [StoreOk, isFilling, isHeld, storedBytes, hnodup.1] using ⟨hfill, hli⟩
        · simp [horder, hj]
      | free => simp [hx, isHeld] at hi
      | filling bytes long bad => simp [hx, isHeld] at hi
      | sending bytes => simp [hx, isHeld] at hi
    · exact h

theorem storeOk_sentStore {r : Receiver} {order : List StoreId} {i : StoreId} {x : FrameStore}
    (h : StoreOk r order i x) : StoreOk r order i (sentStore x) := by
  cases x with
  | sending bytes => exact ⟨h.1, h.2.1, Nat.zero_le _⟩
  | free | filling | held => exact h

theorem endSending_portOk {s : State} (h : PortOk s) : PortOk (endSending s) := by
  obtain ⟨hp, hn⟩ := h
  obtain ⟨-, -, hnodup, -, -, htimer⟩ := id hp
  have hall : ∀ i, StoreOk s.port.receiver s.port.heldOrder i (getStore (endSending s).port i) := by
    intro i
    have := storeOk_sentStore (storeOk_of_portLaw hp i)
    cases i <;> exact this
  exact ⟨⟨fun i => (hall i).1, fun i => (hall i).2.1, hnodup, by simp [endSending], fun i => (hall i).2.2, htimer⟩, hn⟩

/-! ## Every step -/

theorem portLaw_reset : PortLaw State.reset.port := by
  refine ⟨fun i => ?_, fun i => ?_, List.nodup_nil, by decide, fun i => ?_, by decide⟩ <;> cases i <;> decide

theorem exec_portOk (i : Instr) {s t : State} (hs : PortOk s) (h : exec i s = .next t) : PortOk t := by
  obtain ⟨hp, hn⟩ := id hs
  have hreceive : ∀ symbols, PortOk (s.setPort (receiveSymbols symbols s.port)) := fun symbols =>
    portOk_setPort (receiveSymbols_portLaw symbols hp) (by unfold receiveSymbols; split <;> simp) hn
  have hacted : ∀ a : Acted, (∃ n, a.state.port = { s.port with number := n }) → NumberLaw a.state →
      PortOk (keepActed a) := by
    rintro a ⟨n, ha⟩ hna
    exact ⟨portLaw_of_eq hp (fun i => by rw [keepActed, setPort_port, ha]; cases i <;> rfl) (by simp [keepActed, ha])
      (by simp [keepActed, ha]) (by simp [keepActed, ha]), hna⟩
  cases i <;> obtain rfl := Host.Outcome.next.inj h
  case powerOn => exact ⟨portLaw_reset, numberLaw_of_init_idle (.inl rfl)⟩
  case encoderStep => exact portOk_of_kept hs (by simp) (encoderLines_kept _ _ _ s)
  case indexLost =>
    split
    · exact portOk_of_kept hs rfl (nodeKept_raise .indexLost (nodeKept_refl s))
    · exact hs
  case captureExpiry => exact hs
  case loomInput0Edge level => exact inputZero_keeps (P := PortOk) (fun _ _ h => h) level hs
  case loomInputEdge n level =>
    exact inputLevel_keeps (P := PortOk) (fun _ _ h => h) (fun k _ h => portOk_raise k h) n level hs
  case startDelimiter symbols => exact beginFrame_portOk (cutShort_portOk (hreceive symbols)) (cutShort_receiver _)
  case frameEnd symbols => exact endDelimiter_portOk (hreceive symbols)
  case receptionTimeout symbols => exact expireReception_portOk (hreceive symbols)
  case transmitStart => exact startSending_portOk hs
  case transmitEnd => exact endSending_portOk hs
  case designFrame => exact hacted _ ⟨s.port.number, actDesign_port _ s⟩ (actDesign_numberLaw _ hn)
  case enumerate => exact hacted _ (actEnumerate_port _ s) (actEnumerate_numberLaw _ hn)
  case sizingFlushEnd => exact portOk_of_kept hs (by simp) (.inl (by simp))
  case markerPassEnd c p =>
    exact endMarkerPass_keeps (P := PortOk) (fun _ _ _ _ h => h) (fun k _ h => portOk_raise k h)
      (fun _ _ _ _ h => ⟨h.1, numberLaw_of_init_idle (.inr rfl)⟩) c p hs
  case expansionRecordDone => exact portOk_of_kept hs (by simp) (recordDone_kept s)
  case shiftEnd status => exact portOk_of_kept hs (by simp) (endShift_kept status s)
  case restTimerExpiry => exact portOk_of_kept hs (by simp) (.inl (by simp))
  all_goals exact hacted _ ⟨s.port.number, actCommand_port _ _ s⟩ (actCommand_numberLaw _ _ hn)

/-- Settles O58: each operation of the Ring Port changes one store in agreement with receiver and sending order, no action
lengthens a frame, and only an unnumbered node in INIT or IDLE stays or becomes unnumbered. -/
theorem portLawKept : Obligations.PortLawKept := by
  unfold Obligations.PortLawKept
  intro s t hp hn hstep
  unfold step at hstep
  split at hstep
  · obtain rfl := Host.Outcome.next.inj hstep
    exact tick_portOk ⟨hp, hn⟩
  · rename_i c rest _
    exact exec_portOk c (s := s.setPending rest) ⟨hp, hn⟩ hstep

end Sys2Proof.Proofs.PortLaws

/-! PROOFS. The step on an empty queue and on a waiting command, that every command completes, and power-on (R66, R127, R155,
R157, R192). -/

namespace Sys2Proof.Proofs.StepsAndReset

open Sys2Proof Sys2Proof.Machine Sys2Proof.Proofs.Keeps Sys2Proof.Proofs.RunControl Sys2Proof.Proofs.PortLaws
  Sys2Proof.Proofs.RowCounters

/-- Settles O1: the definition of a step, its queue not empty. -/
theorem stepRunsFrontCommand : Obligations.StepRunsFrontCommand := by
  unfold Obligations.StepRunsFrontCommand
  exact fun _ _ _ => rfl

/-! ## One microsecond -/

/-- On an empty queue with the reception timer stopped, the timer and the rest timers move. -/
theorem step_of_empty_stopped {s : State} (hq : s.pending = []) (ht : s.port.rxTimer = none) :
    step s = .next ((s.setTracker (tickTimer s.tracker)).setHealth (tickHealth s.health)) := by
  simp [step, hq, tick, tickReception, ht]

theorem step_of_empty_running {s : State} {left : Nat} (hq : s.pending = []) (ht : s.port.rxTimer = some left)
    (hleft : 1 < left) :
    step s = .next (((s.setTracker (tickTimer s.tracker)).setHealth (tickHealth s.health)).setPort
      { s.port with rxTimer := some (left - 1) }) := by
  have hnot : ¬left ≤ 1 := by omega
  simp [step, hq, tick, tickReception, ht, hnot]

theorem step_of_empty_expiring {s : State} {left : Nat} (hq : s.pending = []) (ht : s.port.rxTimer = some left)
    (hleft : left ≤ 1) :
    step s = .next (expireReception ((s.setTracker (tickTimer s.tracker)).setHealth (tickHealth s.health))) := by
  simp [step, hq, tick, tickReception, ht, hleft]

theorem tickHealth_getElem (h : Health) (c : Fin 6) (k : Nat) :
    (tickHealth h).modules[c][k]? = (h.modules[c][k]?).map tickModule := by
  simp [tickHealth]

/-- Settles O2: the tick of the timers, and then the reception timer by whether it stands, runs on or ends. -/
theorem emptyQueueIsOneMicrosecond : Obligations.EmptyQueueIsOneMicrosecond := by
  unfold Obligations.EmptyQueueIsOneMicrosecond
  refine ⟨fun s hq ht => ⟨tickHealth s.health, step_of_empty_stopped hq ht, rfl, rfl, rfl, fun c k => ?_⟩,
    fun s left hq ht => ⟨_, step_of_empty_stopped hq rfl, fun hleft => step_of_empty_running hq ht hleft,
      fun hleft => ?_⟩⟩
  · rw [tickHealth_getElem]
    congr 1
    funext r
    unfold tickModule
    split <;> rename_i hr <;> simp [hr]
  · rw [step_of_empty_expiring hq ht hleft]
    refine ⟨fun hr => ?_, fun hr => ?_, fun hr => ?_⟩ <;>
    · unfold expireReception
      simp only [setHealth_port, setTracker_port, hr]
      rfl

/-! ## Every command completes -/

theorem exec_answers (c : Instr) (s : State) : ∃ t, exec c s = .next t := by
  cases c <;> exact ⟨_, rfl⟩

theorem actCommand_pending (f : Frame) (c : Option Command) (s : State) : (actCommand f c s).state.pending = s.pending := by
  rcases actCommand_state f c s with h | ⟨x, -, -, h⟩ <;> simp [h]

theorem actDesign_pending (f : Frame) (s : State) : (actDesign f s).state.pending = s.pending := by
  unfold actDesign
  split
  · rfl
  · show (applyDesign (judgeDesign f.body s) f.body s).pending = s.pending
    rcases applyDesign_state f.body s with h | h | ⟨row, -, -, h⟩ <;> simp [h]

theorem actEnumerate_pending (f : Frame) (s : State) : (actEnumerate f s).state.pending = s.pending := by
  unfold actEnumerate
  split
  · rfl
  · split
    · split <;> rfl
    · unfold takeNumber
      split <;> rfl

theorem finishFrame_pending (i : StoreId) (s : State) : (finishFrame i s).pending = s.pending := by
  unfold finishFrame
  split
  · split
    · rename_i f _
      show (actFrame f s).state.pending = s.pending
      unfold actFrame
      split
      · exact actDesign_pending f s
      · split
        · exact actCommand_pending f _ s
        · split
          · exact actEnumerate_pending f s
          · rfl
    · rfl
  all_goals rfl

theorem exec_pending {c : Instr} {s t : State} (h : exec c s = .next t) : t.pending = s.pending := by
  cases c <;> obtain rfl := Host.Outcome.next.inj h
  case powerOn => rfl
  case indexLost => split <;> simp
  case captureExpiry => rfl
  case startDelimiter symbols =>
    rw [(beginFrame_frame _).2.2.2.2.2.2.2.2.2.2]
    unfold cutShort
    split
    · rfl
    · rfl
    · exact finishFrame_pending _ _
  case frameEnd symbols =>
    unfold endDelimiter
    split
    · rfl
    · rfl
    · exact finishFrame_pending _ _
  case designFrame => exact actDesign_pending _ s
  case enumerate => exact actEnumerate_pending _ s
  case encoderStep | loomInput0Edge | loomInputEdge | receptionTimeout | transmitStart | transmitEnd | sizingFlushEnd
      | markerPassEnd | expansionRecordDone | shiftEnd | restTimerExpiry => simp
  all_goals exact actCommand_pending _ _ s

/-- Settling hooks draws free values and gives none back (log entry 7). -/
theorem settleHook_draws (h : Nat) (forced : Bool) (s : State) : s.draws ≤ (settleHook h forced s).draws := by
  unfold settleHook
  split
  · exact le_rfl
  · exact Nat.le_succ _

theorem performCommand_draws (c : Command) (s : State) : s.draws ≤ (performCommand c s).state.draws := by
  cases c <;> simp only [performCommand]
  case clearFaultMap =>
    unfold cmdClearFaultMap
    split
    · exact le_rfl
    · have hlisted : ∀ es t, s.draws ≤ t.draws → s.draws ≤ (settleListed es t).draws := by
        intro es
        induction es with
        | nil => exact fun _ h => h
        | cons e es ih => exact fun t h => ih _ (h.trans (settleHook_draws _ _ t))
      exact hlisted _ _ le_rfl
  all_goals simp [cmdConfigureUnknown, refuse]

/-- No step gives a free value back (log entry 7). -/
theorem step_draws {s t : State} (h : step s = .next t) : s.draws ≤ t.draws := by
  let P : State → Prop := fun t => s.draws ≤ t.draws
  refine step_keeps (P := P) (port := fun _ _ h => h) (pending := fun _ _ h => h) (event := fun _ _ h => h)
    (power := fun _ h => h) (lines := fun _ _ _ t h => ?_) (lost := fun _ h _ => h) (capture := fun _ h => h)
    (input := fun _ t h => ?_) (inputs := fun _ _ t h => ?_) (row := fun _ _ t h _ _ => ?_)
    (command := fun c t h _ => le_trans h (performCommand_draws c t)) (flush := fun t h => ?_)
    (marker := fun _ _ t h => ?_) (record := fun t h => ?_) (shift := fun status _ h => ?_) (rest := fun _ _ t h => ?_)
    (time := fun _ h => h) (le_refl s.draws) h
  case refine_8 =>
    exact endShift_keeps (P := P) (fun _ _ _ h => h)
      (fun latch c k w _ h => takeWord_keeps_of_settle (P := P) (fun _ _ h => h) (fun _ _ h => h)
        (fun hook forced t h => le_trans h (settleHook_draws hook forced t)) latch c k w h)
      (fun _ h => startPending_keeps (P := P) (fun _ _ h => h) h) status h
  all_goals simpa [P] using h

/-- Settles O3: every arm of `exec` answers a next state; the queue and the draws operation by operation. -/
theorem everyCommandAnswersNext : Obligations.EveryCommandAnswersNext := by
  unfold Obligations.EveryCommandAnswersNext
  intro c s
  obtain ⟨t, ht⟩ := exec_answers c s
  have hstep : step (s.setPending (c :: s.pending)) = .next t := ht
  exact ⟨t, ht, exec_pending ht, step_draws (s := s.setPending (c :: s.pending)) hstep⟩

/-! ## Power-on -/

theorem installed_reset : installed State.reset = 0 := by decide

theorem attention_reset : attention State.reset = false := by decide +kernel

/-- Settles O4: each state table's values read off `State.reset`, which POWER_ON gives back. -/
theorem powerOnValues : Obligations.PowerOnValues := by
  unfold Obligations.PowerOnValues
  refine ⟨?_, fun s => ⟨powerOnNode s, rfl, rfl, rfl, rfl, rfl, rfl, rfl, rfl, rfl, rfl, rfl, rfl, rfl, rfl⟩⟩
  refine ⟨⟨rfl, rfl, rfl, rfl, rfl⟩, ⟨rfl, rfl, rfl⟩, ⟨fun i => ⟨?_, ?_, ?_⟩, rfl, rfl, fun i => ?_, rfl, rfl⟩,
    ⟨rfl, rfl, rfl, rfl, rfl⟩, ?_, ⟨rfl, rfl, rfl, rfl, rfl, rfl, fun n => ⟨?_, ?_, ?_⟩⟩,
    ⟨fun c => ⟨?_, ?_⟩, rfl, rfl, rfl, rfl, rfl, rfl, installed_reset⟩, rfl, rfl, attention_reset, fun k => ?_⟩
  all_goals simp [State.reset, anyArmed]

theorem moduleLaw_reset : ModuleLaw State.reset :=
  fun c => ⟨by simp [State.reset, moduleCount], by simp [State.reset]⟩

theorem eventLaw_reset : EventLaw State.reset.control := by
  intro k
  have hk : State.reset.control.events[k] = { flag := false, count := 0, level := defaultLevel k } := by
    simp [State.reset]
  rw [hk]
  exact ⟨by simp, Nat.zero_le _, defaultLevel_of_fixed k⟩

/-- Settles O5: law by law, most of them by the emptiness of what they bound. -/
theorem lawsHoldAtPowerOn : Obligations.LawsHoldAtPowerOn := by
  unfold Obligations.LawsHoldAtPowerOn
  have hinit : InitLaw State.reset := by simp [InitLaw, State.reset]
  have htracker : TrackerLaw State.reset.tracker := by decide
  have hweft : WeftLaw State.reset := by decide
  have hinput : InputLaw State.reset.weft := fun n h => by simp [State.reset] at h
  exact ⟨by decide, by simp [QueueLaw, State.reset], by simp [WorkLaw, State.reset], rowCounterLaw_reset,
    by simp [FaultMapLaw, State.reset], moduleLaw_reset, hinit, by simp [ShiftLaw, State.reset], htracker, hweft, hinput,
    eventLaw_reset, portLaw_reset, numberLaw_of_init_idle (.inl rfl)⟩

end Sys2Proof.Proofs.StepsAndReset

/-! PROOFS. The rows that are the acting of a COMMAND frame (R160, R164-R166, R182): what becomes of the frame by its
destination, and so what a row leaves once its command's own effect is known. With them the node slot (R162, R168) and
ENUMERATE (R161). -/

namespace Sys2Proof.Proofs.CommandRows

open Sys2Proof Sys2Proof.Machine Sys2Proof.Proofs.PortLaws

/-- A COMMAND row delivers its frame. -/
theorem exec_of_commandOf {i : Instr} {h : Header} {c : Command} {pad : List Byte} (hi : commandOf i = some (h, c, pad))
    (s : State) : exec i s = .next (deliver h c pad s) := by
  cases i <;> cases hi <;> rfl

/-! ## The frame by its destination (R160) -/

theorem actCommand_unnumbered {f : Frame} {c : Option Command} {s : State} (hn : s.port.number = none) :
    actCommand f c s = forward f s := by
  simp [actCommand, hn]

theorem actCommand_elsewhere {f : Frame} {c : Option Command} {s : State} {n : Fin 4} (hn : s.port.number = some n)
    (hd : f.dest.toNat ≠ n.val) (hb : f.dest ≠ 0xFF#8) : actCommand f c s = forward f s := by
  simp [actCommand, hn, hd, destBroadcast, hb]

theorem actCommand_broadcast {f : Frame} {c : Option Command} {s : State} {n : Fin 4} (hn : s.port.number = some n)
    (hb : f.dest = 0xFF#8) : actCommand f c s = stampBroadcast n f (executeCommand true c s) := by
  simp [actCommand, hn, destBroadcast, hb]

/-- An address is no broadcast. -/
theorem not_broadcast_of_address {d : Byte} {n : Fin 4} (hd : d.toNat = n.val) : d ≠ 0xFF#8 := by
  rintro rfl
  have := n.isLt
  simp at hd
  omega

theorem actCommand_addressed {f : Frame} {c : Option Command} {s : State} {n : Fin 4} (hn : s.port.number = some n)
    (hd : f.dest.toNat = n.val) : actCommand f c s = respond n c f (executeCommand false c s) := by
  simp [actCommand, hn, destBroadcast, not_broadcast_of_address hd, hd]

theorem deliver_forwarded {h : Header} {c : Command} {pad : List Byte} {s : State}
    (hs : s.port.number = none ∨ ∃ n, s.port.number = some n ∧ h.dest.toNat ≠ n.val ∧ h.dest ≠ 0xFF#8) :
    deliver h c pad s = withActed (commandFrame h c pad) s := by
  unfold deliver
  rcases hs with hn | ⟨n, hn, hd, hb⟩
  · rw [actCommand_unnumbered hn]
    rfl
  · rw [actCommand_elsewhere hn hd hb]
    rfl

/-- Executing a command leaves the Ring Port alone. -/
theorem deliver_broadcast {h : Header} {c : Command} {pad : List Byte} {s : State} {n : Fin 4}
    (hn : s.port.number = some n) (hb : h.dest = 0xFF#8) :
    deliver h c pad s =
      withActed
        (stampedBroadcast n h (commandBytes c ++ pad) (executeCommand true (some c) s).outcome
          (executeCommand true (some c) s).state)
        (executeCommand true (some c) s).state := by
  unfold deliver
  rw [actCommand_broadcast hn hb]
  rfl

theorem deliver_addressed {h : Header} {c : Command} {pad : List Byte} {s : State} {n : Fin 4}
    (hn : s.port.number = some n) (hd : h.dest.toNat = n.val) :
    deliver h c pad s =
      withActed
        (responseFrame n h (replySpace (some c) (commandBytes c ++ pad).length) (executeCommand false (some c) s).outcome
          (executeCommand false (some c) s).reply (executeCommand false (some c) s).state)
        (executeCommand false (some c) s).state := by
  unfold deliver
  rw [actCommand_addressed hn hd]
  rfl

/-! ## Commands that are no query -/

theorem replySpace_of_not_query {c : Command} (hq : isQuery c = false) (m : Nat) : replySpace (some c) m = m := by
  cases c <;> cases hq <;> rfl

/-- A command other than a query that reaches the node, by what executing it gives either way. -/
theorem deliver_answered {h : Header} {c : Command} {pad : List Byte} {s : State} {n : Fin 4} {r : Result}
    (hr : reaches n h s) (hbroadcast : h.dest = 0xFF#8 → executeCommand true (some c) s = r)
    (haddressed : h.dest ≠ 0xFF#8 → executeCommand false (some c) s = r) (hq : isQuery c = false ∨ h.dest = 0xFF#8) :
    deliver h c pad s = answered n h (commandBytes c ++ pad) r.outcome r.reply r.state := by
  obtain ⟨hn, hd⟩ := hr
  by_cases hb : h.dest = 0xFF#8
  · rw [deliver_broadcast hn hb, hbroadcast hb, answered, if_pos hb]
  · have hdn := hd.resolve_right hb
    rw [deliver_addressed hn hdn, haddressed hb, answered, if_neg hb, replySpace_of_not_query (hq.resolve_right hb)]

/-- Out of INIT a command that may be broadcast goes on to its own checks (R182 check 4). -/
theorem executeCommand_performed (b : Bool) {c : Command} {s : State} (hb : b = true → (isQuery c || isLoad c) = false)
    (hn : s.control.node ≠ .init ∨ (isQuery c || isReset c) = true) :
    executeCommand b (some c) s = performCommand c s := by
  unfold executeCommand
  dsimp only
  rw [if_neg (fun hc => by simp [hb hc.1] at hc), if_neg (fun hc => ?_)]
  rcases hn with hn | hn
  · exact hn hc.1
  · simp [hn] at hc

/-- A row whose command may be broadcast, out of INIT or a RESET, reaching its node. -/
theorem exec_performed {i : Instr} {h : Header} {c : Command} {pad : List Byte} {s : State} {n : Fin 4}
    (hi : commandOf i = some (h, c, pad)) (hr : reaches n h s) (hc : (isQuery c || isLoad c) = false)
    (hn : s.control.node ≠ .init ∨ isReset c = true) :
    exec i s =
      .next
        (answered n h (commandBytes c ++ pad) (performCommand c s).outcome (performCommand c s).reply
          (performCommand c s).state) := by
  have hn' : s.control.node ≠ .init ∨ (isQuery c || isReset c) = true := hn.imp_right fun h => by simp [h]
  rw [exec_of_commandOf hi]
  exact congrArg _ (deliver_answered hr (fun _ => executeCommand_performed true (fun _ => hc) hn')
    (fun _ => executeCommand_performed false (fun hb => by cases hb) hn') (.inl (by simp_all)))

/-- A row addressed to its node and not a query, out of INIT. -/
theorem exec_addressed {i : Instr} {h : Header} {c : Command} {pad : List Byte} {s : State} {n : Fin 4}
    (hi : commandOf i = some (h, c, pad)) (ha : addressed n h s) (hq : isQuery c = false) (hn : s.control.node ≠ .init) :
    exec i s =
      .next
        (answered n h (commandBytes c ++ pad) (performCommand c s).outcome (performCommand c s).reply
          (performCommand c s).state) := by
  obtain ⟨hnum, hd⟩ := ha
  rw [exec_of_commandOf hi]
  exact congrArg _ (deliver_answered ⟨hnum, .inl hd⟩ (fun hb => absurd hb (not_broadcast_of_address hd))
    (fun _ => executeCommand_performed false (fun hb => by cases hb) (.inl hn)) (.inl hq))

/-- Settles O20: the frame by its destination, then the first two checks of R182. -/
theorem commandsActByDestination : Obligations.CommandsActByDestination := by
  unfold Obligations.CommandsActByDestination
  refine ⟨fun i h c pad s hi => ?_, fun i h c pad n s hi hr => ?_⟩
  · rw [exec_of_commandOf hi]
    exact ⟨fun hs => congrArg _ (deliver_forwarded hs), fun n hn hb => congrArg _ (deliver_broadcast hn hb),
      fun n hn hd => congrArg _ (deliver_addressed hn hd)⟩
  · rw [exec_of_commandOf hi]
    refine ⟨fun hb hc => ?_, fun hn hc hload => ?_⟩
    · have hrefused : executeCommand true (some c) s = refuse .range s := by
        simp [executeCommand, hc]
      rw [deliver_broadcast hr.1 hb, hrefused]
      rfl
    · obtain ⟨hq, -⟩ := Bool.or_eq_false_iff.mp hc
      have hrefused : ∀ b, (b = true → h.dest = 0xFF#8) → executeCommand b (some c) s = refuse .notReady s := by
        intro b hb
        have hfirst : ¬(b = true ∧ (isQuery c || isLoad c) = true) := fun hx => hload ⟨hb hx.1, by simpa [hq] using hx.2⟩
        unfold executeCommand
        dsimp only
        rw [if_neg hfirst, if_pos ⟨hn, hc⟩]
      rw [deliver_answered hr (fun hb => hrefused true fun _ => hb) (fun _ => hrefused false fun hb => by cases hb)
        (.inl hq)]
      rfl

/-! ## The node slot (R162, R168) -/

theorem outcomeNumber_lt (o : OutcomeCode) : outcomeNumber o < 16 := by cases o <;> decide

theorem nodeCode_lt (x : NodeState) : nodeCode x < 4 := by cases x <;> decide

theorem bitOf_lt (b : Bool) : bitOf b < 2 := by cases b <;> decide

theorem decide_bitOf (b : Bool) : decide (bitOf b = 1) = b := by cases b <;> rfl

/-- The value of a slot, its six items added up, does not overflow. -/
theorem slotWord_toNat (o : OutcomeCode) (cut : Bool) (s : State) (hq : s.store.queue.length ≤ 8) :
    (slotWord o cut s).toNat = outcomeNumber o * 4096 + nodeCode s.control.node * 1024 + bitOf (attention s) * 512 +
      bitOf (rewindActive s) * 256 + (8 - s.store.queue.length) * 16 + bitOf cut * 8 := by
  have h1 := outcomeNumber_lt o
  have h2 := nodeCode_lt s.control.node
  have h3 := bitOf_lt (attention s)
  have h4 := bitOf_lt (rewindActive s)
  have h5 := bitOf_lt cut
  simp only [slotWord, BitVec.toNat_ofNat, queueFree, Config.queueSize]
  omega

/-- Settles O21: each item is read off the sum by division. -/
theorem slotLayout : Obligations.SlotLayout := by
  unfold Obligations.SlotLayout
  intro o cut s hq
  have h1 := outcomeNumber_lt o
  have h2 := nodeCode_lt s.control.node
  have h3 := bitOf_lt (attention s)
  have h4 := bitOf_lt (rewindActive s)
  have h5 := bitOf_lt cut
  have hsum := slotWord_toNat o cut s hq
  have hrewind : rewindActive s = decide (0 < s.store.rewind ∨ 0 < s.store.overshoot) := by simp [rewindActive]
  have hbit : ∀ i, (slotWord o cut s).getLsbD i = decide ((slotWord o cut s).toNat / 2 ^ i % 2 = 1) := fun i => by
    rw [← BitVec.testBit_toNat, Nat.testBit_eq_decide_div_mod_eq]
  simp only [hbit, BitVec.extractLsb'_toNat, Nat.shiftRight_eq_div_pow, hsum, ← hrewind]
  refine ⟨by omega, by omega, ?_, ?_, by omega, ?_, by omega⟩
  · exact (decide_eq_decide.mpr (by omega)).trans (decide_bitOf (attention s))
  · exact (decide_eq_decide.mpr (by omega)).trans (decide_bitOf (rewindActive s))
  · exact (decide_eq_decide.mpr (by omega)).trans (decide_bitOf cut)

/-! ## ENUMERATE (R161) -/

/-- Settles O25: the counter by whether it numbers a node, in the node states in which it may. -/
theorem enumerateNumbersNode : Obligations.EnumerateNumbersNode := by
  unfold Obligations.EnumerateNumbersNode
  intro h counter rest s
  have hexec : exec (.enumerate h (counter :: rest)) s =
      .next (keepActed (actEnumerate (bodyFrame kindEnumerate h (counter :: rest)) s)) := rfl
  refine ⟨rfl, fun hw n hn => ?_, fun hw hc => ?_, fun hw n hn => ?_⟩
  · have hlt : counter.toNat < 4 := by have := n.isLt; omega
    obtain rfl : n = ⟨counter.toNat, hlt⟩ := Fin.ext hn.symm
    rw [hexec]
    simp only [actEnumerate, bodyFrame, hw, Bool.false_eq_true, if_false, takeNumber, dif_pos hlt]
    rfl
  · have hge : ¬counter.toNat < 4 := by omega
    rw [hexec]
    simp only [actEnumerate, bodyFrame, hw, Bool.false_eq_true, if_false, takeNumber, dif_neg hge]
    rfl
  · rw [hexec]
    simp only [actEnumerate, bodyFrame, hw, if_true, hn]
    rfl

end Sys2Proof.Proofs.CommandRows

/-! PROOFS. CONFIGURE (R183): what a row leaves once its value has been judged, and each parameter's judgement (R14, R69, R72,
R83, R88, R90, R95, R97, R127, R144). -/

namespace Sys2Proof.Proofs.ConfigureRows

open Sys2Proof Sys2Proof.Machine Sys2Proof.Proofs.CommandRows

section
variable {n : Fin 4} {h : Header} {index : Byte} {v : Half} {pad : List Byte} {s : State} {i : Instr} {p : Parameter}

/-- A CONFIGURE row whose index names a target, by the judgement of its value and the value held afterwards. -/
theorem exec_configure {t : Target} {code : Byte} {o : OutcomeCode} {held : Nat} {u : State}
    (hi : commandOf i = some (h, .configure p index v, pad)) (hr : reaches n h s) (hn : s.control.node ≠ .init)
    (hcode : parameterCode p = code) (ht : targetOf p index.toNat = some t)
    (hj : judgeSetting p t v.toNat s = { outcome := o, state := u }) (hheld : heldValue t u = held) :
    exec i s =
      .next (answered n h ([0x01#8, code, index] ++ halfBytes v ++ pad) o ([code, index] ++ be16 held) u) := by
  have hc : performCommand (.configure p index v) s =
      { state := u, outcome := o, reply := [code, index] ++ be16 held } := by
    simp only [performCommand, cmdConfigure, ht, hj, hheld, hcode]
  have hbytes : commandBytes (.configure p index v) = [0x01#8, code, index] ++ halfBytes v := by
    rw [← hcode]
    rfl
  rw [exec_performed hi hr rfl (.inl hn), hc, hbytes]

/-- A CONFIGURE row whose index is out of range. -/
theorem exec_configure_none {code : Byte} (hi : commandOf i = some (h, .configure p index v, pad)) (hr : reaches n h s)
    (hn : s.control.node ≠ .init) (hcode : parameterCode p = code) (ht : targetOf p index.toNat = none) :
    exec i s =
      .next (answered n h ([0x01#8, code, index] ++ halfBytes v ++ pad) .range ([code, index] ++ []) s) := by
  have hc : performCommand (.configure p index v) s = { state := s, outcome := .range, reply := [code, index] } := by
    simp only [performCommand, cmdConfigure, ht, hcode]
  have hbytes : commandBytes (.configure p index v) = [0x01#8, code, index] ++ halfBytes v := by
    rw [← hcode]
    rfl
  rw [exec_performed hi hr rfl (.inl hn), hc, hbytes]
  rfl
end

/-! ## The judgement of a value -/

theorem judgeSetting_of_weaving {p : Parameter} {t : Target} {v : Nat} {s : State} (hp : idleOnly p = true)
    (hw : weaving s = true) : judgeSetting p t v s = { outcome := .badState, state := s } :=
  if_pos ⟨hp, hw⟩

theorem judgeSetting_of_idle {p : Parameter} {t : Target} {v : Nat} {s : State} (hs : s.control.node = .idle) :
    judgeSetting p t v s = setTarget t v s :=
  if_neg fun hc => by simp [weaving, hs] at hc

theorem judgeSetting_of_any {p : Parameter} {t : Target} {v : Nat} {s : State} (hp : idleOnly p = false) :
    judgeSetting p t v s = setTarget t v s :=
  if_neg fun hc => by simp [hp] at hc

theorem weaving_of_not_idle {s : State} (hn : s.control.node ≠ .init) (hi : s.control.node ≠ .idle) :
    weaving s = true := by
  unfold weaving
  cases hs : s.control.node with
  | init => exact absurd hs hn
  | idle => exact absurd hs hi
  | run => rfl
  | halt => rfl

theorem distanceInRange_iff {v : Nat} : distanceInRange v = true ↔ 32 ≤ v ∧ v ≤ 736 := decide_eq_true_iff

theorem setFeederDistance_in {v : Nat} (s : State) (h : 32 ≤ v ∧ v ≤ 736) :
    setFeederDistance v s = taken (s.setTracker { s.tracker with feederDist := v }) :=
  if_pos (distanceInRange_iff.mpr h)

theorem setFeederDistance_out {v : Nat} (s : State) (h : ¬(32 ≤ v ∧ v ≤ 736)) : setFeederDistance v s = outOfRange s :=
  if_neg (mt distanceInRange_iff.mp h)

theorem setOpenDistance_in {v : Nat} {s : State} (h : 32 ≤ v ∧ v ≤ 736 ∧ v < s.tracker.closeDist) :
    setOpenDistance v s = taken (s.setTracker { s.tracker with openDist := v }) :=
  if_pos ⟨distanceInRange_iff.mpr ⟨h.1, h.2.1⟩, h.2.2⟩

theorem setOpenDistance_out {v : Nat} {s : State} (h : ¬(32 ≤ v ∧ v ≤ 736 ∧ v < s.tracker.closeDist)) :
    setOpenDistance v s = outOfRange s :=
  if_neg fun hc => h (and_assoc.mp ⟨distanceInRange_iff.mp hc.1, hc.2⟩)

theorem setCloseDistance_in {v : Nat} {s : State} (h : 32 ≤ v ∧ v ≤ 736 ∧ s.tracker.openDist < v) :
    setCloseDistance v s = taken (s.setTracker { s.tracker with closeDist := v }) :=
  if_pos ⟨distanceInRange_iff.mpr ⟨h.1, h.2.1⟩, h.2.2⟩

theorem setCloseDistance_out {v : Nat} {s : State} (h : ¬(32 ≤ v ∧ v ≤ 736 ∧ s.tracker.openDist < v)) :
    setCloseDistance v s = outOfRange s :=
  if_neg fun hc => h (and_assoc.mp ⟨distanceInRange_iff.mp hc.1, hc.2⟩)

/-- Settles O26: the state check, and in IDLE the range of each parameter. -/
theorem idleOnlyParameters : Obligations.IdleOnlyParameters := by
  unfold Obligations.IdleOnlyParameters
  intro n h index v pad s hr hn
  dsimp only
  refine ⟨fun hidle => ?_, fun hidle => ?_⟩
  · have hw := weaving_of_not_idle hn hidle
    exact ⟨exec_configure rfl hr hn rfl rfl (judgeSetting_of_weaving rfl hw) rfl,
      exec_configure rfl hr hn rfl rfl (judgeSetting_of_weaving rfl hw) rfl,
      exec_configure rfl hr hn rfl rfl (judgeSetting_of_weaving rfl hw) rfl,
      exec_configure rfl hr hn rfl rfl (judgeSetting_of_weaving rfl hw) rfl,
      exec_configure rfl hr hn rfl rfl (judgeSetting_of_weaving rfl hw) rfl⟩
  · have hset : ∀ {p t r}, setTarget t v.toNat s = r → judgeSetting p t v.toNat s = r :=
      (judgeSetting_of_idle hidle).trans
    refine ⟨?_, ?_, ?_, ?_, ?_⟩ <;> split <;> rename_i hv
    · exact exec_configure rfl hr hn rfl rfl (hset (if_pos hv)) rfl
    · exact exec_configure rfl hr hn rfl rfl (hset (if_neg hv)) rfl
    · exact exec_configure rfl hr hn rfl rfl (hset (if_pos hv)) rfl
    · exact exec_configure rfl hr hn rfl rfl (hset (if_neg hv)) rfl
    · exact exec_configure rfl hr hn rfl rfl (hset (setFeederDistance_in s hv)) rfl
    · exact exec_configure rfl hr hn rfl rfl (hset (setFeederDistance_out s hv)) rfl
    · exact exec_configure rfl hr hn rfl rfl (hset (setOpenDistance_in hv)) rfl
    · exact exec_configure rfl hr hn rfl rfl (hset (setOpenDistance_out hv)) rfl
    · exact exec_configure rfl hr hn rfl rfl (hset (setCloseDistance_in hv)) rfl
    · exact exec_configure rfl hr hn rfl rfl (hset (setCloseDistance_out hv)) rfl

/-! ## Values brought to the nearer limit -/

theorem clamp_of_lt {lo hi v : Nat} (h : v < lo) : clamp lo hi v = lo := if_pos h

theorem clamp_of_gt {lo hi v : Nat} (hlo : lo ≤ v) (h : hi < v) : clamp lo hi v = hi := by
  rw [clamp, if_neg (by omega), if_pos h]

theorem clamp_of_mem {lo hi v : Nat} (hlo : lo ≤ v) (hhi : v ≤ hi) : clamp lo hi v = v := by
  rw [clamp, if_neg (by omega), if_neg (by omega)]

theorem clampedOutcome_of_mem {lo hi v : Nat} (h : clamp lo hi v = v) : clampedOutcome lo hi v = .accepted := if_pos h

theorem clampedOutcome_of_out {lo hi v x : Nat} (h : clamp lo hi v = x) (hx : x ≠ v) :
    clampedOutcome lo hi v = .clamped :=
  if_neg fun hc => hx (h.symm.trans hc)

theorem setSelectLatency_eq {v x : Nat} {o : OutcomeCode} (s : State) (hx : clamp 0 10000 v = x)
    (ho : clampedOutcome 0 10000 v = o) :
    setSelectLatency v s = { outcome := o, state := s.setTracker (retarget { s.tracker with latency := x }) } := by
  rw [setSelectLatency, hx, ho]

theorem setReverseMargin_eq {v x : Nat} {o : OutcomeCode} (s : State) (hx : clamp 4 64 v = x)
    (ho : clampedOutcome 4 64 v = o) :
    setReverseMargin v s = { outcome := o, state := s.setTracker { s.tracker with margin := x } } := by
  rw [setReverseMargin, hx, ho]

theorem setRestTime_eq {v x : Nat} {o : OutcomeCode} (s : State) (hx : clamp 20 500 v = x)
    (ho : clampedOutcome 20 500 v = o) :
    setRestTime v s = { outcome := o, state := s.setHealth { s.health with restTime := x } } := by
  rw [setRestTime, hx, ho]

/-- Settles O27: each value is inside its limits, below the lower or above the upper one. -/
theorem timingParameters : Obligations.TimingParameters := by
  unfold Obligations.TimingParameters
  intro n h index v pad s hr hn done latency margin rest
  have htarget : ∀ x, latency x = s.setTracker (retarget { s.tracker with latency := x }) := fun x =>
    congrArg (fun y => s.setTracker { s.tracker with latency := x, target := y })
      (show _ = targetAdvance x s.tracker.period by cases s.tracker.period <;> rfl)
  have hlatency : ∀ {x o}, clamp 0 10000 v.toNat = x → clampedOutcome 0 10000 v.toNat = o →
      exec (.configureSelectLatency h index v pad) s = done 0x03#8 o x (latency x) := fun {x} {o} hx ho =>
    exec_configure rfl hr hn rfl rfl
      ((judgeSetting_of_any rfl).trans ((setSelectLatency_eq s hx ho).trans (by rw [htarget]))) rfl
  have hmargin : ∀ {x o}, clamp 4 64 v.toNat = x → clampedOutcome 4 64 v.toNat = o →
      exec (.configureReverseMargin h index v pad) s = done 0x04#8 o x (margin x) := fun hx ho =>
    exec_configure rfl hr hn rfl rfl ((judgeSetting_of_any rfl).trans (setReverseMargin_eq s hx ho)) rfl
  have hrest : ∀ {x o}, clamp 20 500 v.toNat = x → clampedOutcome 20 500 v.toNat = o →
      exec (.configureRestTime h index v pad) s = done 0x0D#8 o x (rest x) := fun hx ho =>
    exec_configure rfl hr hn rfl rfl ((judgeSetting_of_any rfl).trans (setRestTime_eq s hx ho)) rfl
  refine ⟨?_, ?_, ?_⟩
  · split
    · have hx := clamp_of_mem (Nat.zero_le v.toNat) ‹_›
      exact hlatency hx (clampedOutcome_of_mem hx)
    · have hx : clamp 0 10000 v.toNat = 10000 := clamp_of_gt (Nat.zero_le _) (by omega)
      exact hlatency hx (clampedOutcome_of_out hx (by omega))
  · split
    · have hx : clamp 4 64 v.toNat = 4 := clamp_of_lt ‹_›
      exact hmargin hx (clampedOutcome_of_out hx (by omega))
    · split
      · have hx : clamp 4 64 v.toNat = 64 := clamp_of_gt (by omega) ‹_›
        exact hmargin hx (clampedOutcome_of_out hx (by omega))
      · have hx : clamp 4 64 v.toNat = v.toNat := clamp_of_mem (by omega) (by omega)
        exact hmargin hx (clampedOutcome_of_mem hx)
  · split
    · have hx : clamp 20 500 v.toNat = 20 := clamp_of_lt ‹_›
      exact hrest hx (clampedOutcome_of_out hx (by omega))
    · split
      · have hx : clamp 20 500 v.toNat = 500 := clamp_of_gt (by omega) ‹_›
        exact hrest hx (clampedOutcome_of_out hx (by omega))
      · have hx : clamp 20 500 v.toNat = v.toNat := clamp_of_mem (by omega) (by omega)
        exact hrest hx (clampedOutcome_of_mem hx)

/-! ## The weft owner, the arrival edge and the inputs -/

theorem edgeOfValue_of_mem {e : Nat × EdgeSelect} (he : e ∈ [(0, EdgeSelect.rise), (1, .fall), (2, .both)]) :
    edgeOfValue e.1 = some e.2 := by
  revert e
  decide

theorem edgeCode_of_mem {e : Nat × EdgeSelect} (he : e ∈ [(0, EdgeSelect.rise), (1, .fall), (2, .both)]) :
    edgeCode e.2 = e.1 := by
  revert e
  decide

theorem edgeOfValue_of_ge {v : Nat} (h : 3 ≤ v) : edgeOfValue v = none := by
  unfold edgeOfValue
  split
  · omega
  · omega
  · omega
  · rfl

theorem setArrivalEdge_some {v : Nat} {e : EdgeSelect} (s : State) (h : edgeOfValue v = some e) :
    setArrivalEdge v s = taken (s.setWeft { s.weft with arrivalEdge := e }) := by
  simp only [setArrivalEdge, h]

theorem setArrivalEdge_none {v : Nat} (s : State) (h : edgeOfValue v = none) : setArrivalEdge v s = outOfRange s := by
  simp only [setArrivalEdge, h]

theorem setInputEdge_some (m : Fin 7) {v : Nat} {e : EdgeSelect} (s : State) (h : edgeOfValue v = some e) :
    setInputEdge m v s = taken (s.setWeft { s.weft with edges := s.weft.edges.set m e }) := by
  simp only [setInputEdge, h]

theorem setInputEdge_none (m : Fin 7) {v : Nat} (s : State) (h : edgeOfValue v = none) :
    setInputEdge m v s = outOfRange s := by
  simp only [setInputEdge, h]

theorem setWeftOwner_of_ge {v : Nat} (s : State) (h : 2 ≤ v) : setWeftOwner v s = outOfRange s := by
  unfold setWeftOwner
  split
  · omega
  · omega
  · rfl

theorem setInputEnable_of_ge (m : Fin 7) {v : Nat} (s : State) (h : 2 ≤ v) : setInputEnable m v s = outOfRange s := by
  unfold setInputEnable
  split
  · omega
  · omega
  · rfl

/-- The flag cleared on a node that is no weft owner changes nothing. -/
theorem setWeftOwner_zero_of_not {s : State} (h : s.weft.owner = false) : setWeftOwner 0 s = taken s := by
  have hself : { s.weft with owner := false } = s.weft := by rw [← h]
  simp only [setWeftOwner, h, Bool.false_eq_true, if_false, hself, setWeft_self]

/-- The flag cleared on a weft owner zeroes the feeder output and closes the window without a decision (R88). -/
theorem setWeftOwner_zero_of_owner {s : State} (h : s.weft.owner = true) :
    setWeftOwner 0 s =
      taken (s.setWeft { s.weft with owner := false, feeder := 0, window := false, mark := false }) := by
  simp only [setWeftOwner, h, if_true]
  rfl

theorem inputOfIndex_of_mem {index : Byte} {m : Fin 7} (h : index.toNat = m.val + 1) : inputOfIndex index.toNat = some m := by
  have hm := m.isLt
  rw [inputOfIndex, dif_pos (by omega)]
  exact congrArg some (Fin.ext (by simp [h]))

theorem inputOfIndex_of_out {index : Byte} (h : index.toNat = 0 ∨ 8 ≤ index.toNat) : inputOfIndex index.toNat = none :=
  dif_neg (by omega)

theorem getElem_set_input {α : Type} (xs : Vector α 7) (m : Fin 7) (x : α) : (xs.set m x)[m] = x :=
  Vector.getElem_set_self m.isLt

/-- Settles O28: the flag's values 0 and 1, the three edges, and the enable and edge of an input named or not. -/
theorem weftAndInputParameters : Obligations.WeftAndInputParameters := by
  unfold Obligations.WeftAndInputParameters
  refine ⟨fun n h index v pad s hr hn => ?_, fun n h index v pad s hr hn => ?_⟩
  · have hset : ∀ {p r}, idleOnly p = false → setPlain p v.toNat s = r → judgeSetting p (.plain p) v.toNat s = r :=
      fun hp hr => (judgeSetting_of_any hp).trans hr
    refine ⟨fun hv => ?_, fun hv ho => ?_, fun hv ho => ?_, fun hv => ?_, fun e he hv => ?_, fun hv => ?_⟩
    · exact exec_configure rfl hr hn rfl rfl (hset rfl (by rw [hv]; rfl)) rfl
    · exact exec_configure rfl hr hn rfl rfl (hset rfl (by rw [hv]; exact setWeftOwner_zero_of_not ho))
        (by simp [heldValue, plainHeld, ho, bitOf])
    · exact exec_configure rfl hr hn rfl rfl (hset rfl (by rw [hv]; exact setWeftOwner_zero_of_owner ho)) rfl
    · exact exec_configure rfl hr hn rfl rfl (hset rfl (setWeftOwner_of_ge s hv)) rfl
    · exact exec_configure rfl hr hn rfl rfl (hset rfl (setArrivalEdge_some s (hv ▸ edgeOfValue_of_mem he)))
        (edgeCode_of_mem he)
    · exact exec_configure rfl hr hn rfl rfl (hset rfl (setArrivalEdge_none s (edgeOfValue_of_ge hv))) rfl
  · have hset : ∀ {p t r}, idleOnly p = false → setTarget t v.toNat s = r → judgeSetting p t v.toNat s = r :=
      fun hp => (judgeSetting_of_any hp).trans
    refine ⟨fun m hm => ?_, fun hout => ?_⟩
    · have henable : targetOf .inputEnable index.toNat = some (.enable m) := by
        rw [targetOf, inputOfIndex_of_mem hm]
        rfl
      have hedge : targetOf .inputEdge index.toNat = some (.edge m) := by
        rw [targetOf, inputOfIndex_of_mem hm]
        rfl
      refine ⟨fun hv => ?_, fun hv => ?_, fun hv => ?_, fun e he hv => ?_, fun hv => ?_⟩
      · exact exec_configure (held := 0) rfl hr hn rfl henable (hset rfl (by rw [hv]; rfl))
          (congrArg bitOf (getElem_set_input _ m false))
      · exact exec_configure (held := 1) rfl hr hn rfl henable (hset rfl (by rw [hv]; rfl))
          (congrArg bitOf (getElem_set_input _ m true))
      · have hheld : be16 (bitOf s.weft.enables[m]) = [0, if s.weft.enables[m] then 1 else 0] := by
          cases s.weft.enables[m] <;> rfl
        rw [← hheld]
        exact exec_configure rfl hr hn rfl henable (hset rfl (setInputEnable_of_ge m s hv)) rfl
      · exact exec_configure rfl hr hn rfl hedge (hset rfl (setInputEdge_some m s (hv ▸ edgeOfValue_of_mem he)))
          ((congrArg edgeCode (getElem_set_input _ m e.2)).trans (edgeCode_of_mem he))
      · exact exec_configure rfl hr hn rfl hedge (hset rfl (setInputEdge_none m s (edgeOfValue_of_ge hv))) rfl
    · have hnone := inputOfIndex_of_out hout
      exact ⟨exec_configure_none rfl hr hn rfl (by rw [targetOf, hnone]; rfl),
        exec_configure_none rfl hr hn rfl (by rw [targetOf, hnone]; rfl)⟩

/-! ## Action levels -/

theorem levelOfValue_of_mem {l : Nat × Level} (hl : l ∈ [(0, Level.record), (1, .notify), (2, .stop)]) :
    levelOfValue l.1 = some l.2 ∧ levelCode l.2 = l.1 := by
  revert l
  decide

theorem levelOfValue_of_ge {v : Nat} (h : 3 ≤ v) : levelOfValue v = none := by
  unfold levelOfValue
  split
  · omega
  · omega
  · omega
  · rfl

theorem levelFixed_iff : ∀ k : Fin 26, levelFixed k = true ↔ k ∈ [0, 11, 18, 19] := by decide

theorem setActionLevel_taken {k : Fin 26} {v : Nat} {l : Level} (s : State) (hl : levelOfValue v = some l)
    (hk : levelFixed k = false) :
    setActionLevel k v s =
      taken (s.setControl { s.control with events := s.control.events.set k { s.control.events[k] with level := l } }) := by
  simp only [setActionLevel, hl, hk, Bool.false_eq_true, if_false]

theorem setActionLevel_fixed {k : Fin 26} (v : Nat) (s : State) (hk : levelFixed k = true) :
    setActionLevel k v s = outOfRange s := by
  unfold setActionLevel
  split
  · rw [if_pos hk]
  · rfl

theorem setActionLevel_of_ge (k : Fin 26) {v : Nat} (s : State) (hv : 3 ≤ v) : setActionLevel k v s = outOfRange s := by
  simp only [setActionLevel, levelOfValue_of_ge hv]

/-- Settles O29: the kind by whether it is one and whether its level is fixed, the level by its value. -/
theorem actionLevels : Obligations.ActionLevels := by
  unfold Obligations.ActionLevels
  intro n h index v pad s hr hn
  refine ⟨fun hk => ?_, fun k hk => ?_⟩
  · exact exec_configure_none rfl hr hn rfl (by rw [targetOf, kindOfIndex, dif_neg (by omega)]; rfl)
  · have htarget : targetOf .actionLevel index.toNat = some (.level k) := by
      rw [targetOf, kindOfIndex, dif_pos (by omega)]
      exact congrArg some (congrArg Target.level (Fin.ext hk))
    have hset : ∀ {r}, setActionLevel k v.toNat s = r → judgeSetting .actionLevel (.level k) v.toNat s = r :=
      fun hr => (judgeSetting_of_any rfl).trans hr
    refine ⟨fun hfree => ⟨fun l hl hv => ?_, fun hv => ?_⟩, fun hfixed => ?_⟩
    · obtain ⟨hvalue, hcode⟩ := levelOfValue_of_mem hl
      have hk' : levelFixed k = false := Bool.eq_false_iff.mpr (mt (levelFixed_iff k).mp hfree)
      refine exec_configure rfl hr hn rfl htarget (hset (setActionLevel_taken s (hv ▸ hvalue) hk')) ?_
      exact (congrArg (fun e : EventRecord => levelCode e.level) (Vector.getElem_set_self k.isLt)).trans hcode
    · exact exec_configure rfl hr hn rfl htarget (hset (setActionLevel_of_ge k s hv)) rfl
    · exact exec_configure rfl hr hn rfl htarget (hset (setActionLevel_fixed _ s ((levelFixed_iff k).mpr hfixed))) rfl

end Sys2Proof.Proofs.ConfigureRows

/-! PROOFS. Run control, the clearing commands, the queries and RESET (R34, R53, R98, R110, R122, R130, R136-R141, R149, R188,
R190, R191): what each row leaves. -/

namespace Sys2Proof.Proofs.RunRows

open Sys2Proof Sys2Proof.Machine Sys2Proof.Proofs.CommandRows Sys2Proof.Proofs.EventRaise Sys2Proof.Proofs.ConfigureRows

section
variable {n : Fin 4} {h : Header} {pad : List Byte} {s : State} {i : Instr} {c : Command}

/-- A row whose command may be broadcast, by the result of its command. -/
theorem exec_result {body : List Byte} {o : OutcomeCode} {reply : List Byte} {u : State} (hi : commandOf i = some (h, c, pad))
    (hr : reaches n h s) (hc : (isQuery c || isLoad c) = false) (hn : s.control.node ≠ .init)
    (hbody : commandBytes c ++ pad = body) (hres : performCommand c s = { state := u, outcome := o, reply := reply }) :
    exec i s = .next (answered n h body o reply u) := by
  rw [exec_performed hi hr hc (.inl hn), hres, hbody]
end

/-! ## RUN, RESUME and IDLE (R136, R138, R139, R141) -/

theorem anyPresent_iff (s : State) : anyPresent s = true ↔ ∃ c : Fin 6, s.selector.chains[c] ≠ .absent := by
  have hpresent : ∀ x, isPresent x = true ↔ x ≠ .absent := by
    intro x
    cases x <;> simp [isPresent]
  simp only [anyPresent, List.any_eq_true, Vector.mem_toList_iff, Vector.mem_iff_getElem, hpresent]
  constructor
  · rintro ⟨x, ⟨k, hk, rfl⟩, hx⟩
    exact ⟨⟨k, hk⟩, hx⟩
  · rintro ⟨c, hc⟩
    exact ⟨_, ⟨c.val, c.isLt, rfl⟩, hc⟩

theorem exists_event_iff (s : State) (p : EventRecord → Bool) :
    s.control.events.toList.any p = true ↔ ∃ k : Fin 26, p s.control.events[k] = true := by
  simp only [List.any_eq_true, Vector.mem_toList_iff, Vector.mem_iff_getElem]
  constructor
  · rintro ⟨x, ⟨k, hk, rfl⟩, hx⟩
    exact ⟨⟨k, hk⟩, hx⟩
  · rintro ⟨k, hk⟩
    exact ⟨_, ⟨k.val, k.isLt, rfl⟩, hk⟩

theorem stopHold_iff (s : State) :
    stopHold s = true ↔ ∃ k : Fin 26, s.control.events[k].flag = true ∧ s.control.events[k].level = .stop := by
  simp only [stopHold, exists_event_iff, holdsStop_iff]

theorem stopHold_eq_false_iff (s : State) :
    stopHold s = false ↔ ∀ k : Fin 26, s.control.events[k].flag = true → s.control.events[k].level ≠ .stop := by
  rw [← Bool.not_eq_true, stopHold_iff]
  simp only [not_exists, not_and, ne_eq]

/-- Settles O34: the conditions of RUN and of RESUME as the statement spells them. -/
theorem runAndResumeEnterRun : Obligations.RunAndResumeEnterRun := by
  unfold Obligations.RunAndResumeEnterRun
  refine ⟨fun s => by simp [stopRequest], fun n h pad s hr hn => ?_⟩
  simp only [← anyPresent_iff, ← stopHold_eq_false_iff]
  exact ⟨fun hc => exec_result rfl hr rfl hn rfl (if_pos hc), fun hc => exec_result rfl hr rfl hn rfl (if_neg hc),
    fun hc => exec_result rfl hr rfl hn rfl (if_pos hc), fun hc => exec_result rfl hr rfl hn rfl (if_neg hc)⟩

/-- What entry to IDLE leaves of the selector is what the shift in flight asks for (R110). -/
theorem enterIdle_selector (s : State) : (enterIdle s).selector = (idleEntryShift s).selector := by
  have hany : ∀ t : State, t.selector = s.selector → anyPresent t = anyPresent s ∧ installed t = installed s := by
    intro t ht
    simp only [anyPresent, installed, ht, and_self]
  obtain ⟨hpresent, hinstalled⟩ := hany (setFeeder 0 (closeWindow (disarmEvents (setNode .idle s)))) rfl
  simp only [enterIdle, idleEntryShift, startShift, hpresent, composeShift, hinstalled]
  cases hs : s.selector.shift with
  | none => simp [hs]; split <;> rfl
  | some sh => cases hk : sh.kind <;> simp [hs, hk] <;> rfl

theorem enterIdle_eq (s : State) :
    enterIdle s = (((s.setControl { s.control with node := .idle }).setTracker
      { s.tracker with armed := ⟨false, false, false⟩ }).setWeft
      { s.weft with window := false, mark := false, feeder := 0 }).setSelector (idleEntryShift s).selector := by
  rw [← enterIdle_selector]
  unfold enterIdle idleEntryShift startShift
  split
  · split <;> rfl
  · split <;> rfl

/-- Settles O35: entry to IDLE by the shift in flight. -/
theorem idleEntersIdle : Obligations.IdleEntersIdle := by
  unfold Obligations.IdleEntersIdle
  intro n h pad s hr hn
  refine ⟨fun hidle => ?_, fun hw => ?_⟩
  · have hw : weaving s = false := by simp [weaving, hidle]
    refine exec_result rfl hr rfl hn rfl ?_
    simp only [performCommand, cmdIdle, hw, Bool.false_eq_true, if_false]
    rfl
  · have hexec : ∀ x, (idleEntryShift s).selector = x →
        exec (.idle h pad) s = .next (answered n h (0x08#8 :: pad) .accepted []
          ((((s.setControl { s.control with node := .idle }).setTracker
            { s.tracker with armed := ⟨false, false, false⟩ }).setWeft
            { s.weft with window := false, mark := false, feeder := 0 }).setSelector x)) := by
      rintro _ rfl
      refine exec_result rfl hr rfl hn rfl ?_
      simp only [performCommand, cmdIdle, hw, if_true, enterIdle_eq, accept]
    refine ⟨fun hs hp => hexec _ ?_, fun hs hp => hexec _ ?_, fun sh hs hk => hexec _ ?_, fun sh hs hk => hexec _ ?_⟩
    · simp [idleEntryShift, hs, startShift, (anyPresent_iff s).mpr hp, composeShift]
    · have hnone : anyPresent s = false := by
        rw [← Bool.not_eq_true, anyPresent_iff]
        exact fun ⟨c, hc⟩ => hc (hp c)
      simp [idleEntryShift, hs, startShift, hnone, composeShift]
    · simp [idleEntryShift, hs, hk, setPendingShift]
    · simp [idleEntryShift, hs, hk, setPendingShift]

/-! ## Discarding and clearing (R34, R53, R122, R149, R190) -/

/-- A row counter moved back comes round again to where it stood (R22, R34). -/
theorem rollBack_spec {g : Geometry} {r : Nat} (m : Nat) (hr : r < g.h) :
    rollBack (.loaded g) r m < g.h ∧ (rollBack (.loaded g) r m + m) % g.h = r := by
  have hpos : (0 : Int) < g.h := by omega
  have hnonneg : 0 ≤ ((r : Int) - m) % g.h := Int.emod_nonneg _ (by omega)
  have hlt : ((r : Int) - m) % g.h < g.h := Int.emod_lt_of_pos _ hpos
  have hback : rollBack (.loaded g) r m = (((r : Int) - m) % g.h).toNat := rfl
  refine ⟨by omega, ?_⟩
  have hint : (((rollBack (.loaded g) r m + m) % g.h : Nat) : Int) = r := by
    rw [hback]
    push_cast
    rw [Int.toNat_of_nonneg hnonneg, Int.emod_add_emod, Int.sub_add_cancel]
    exact Int.emod_eq_of_lt (by omega) (by omega)
  exact_mod_cast hint

/-- Settles O36: the row counters by the arithmetic of going back, the rest read off the command. -/
theorem discardQueueEmpties : Obligations.DiscardQueueEmpties := by
  unfold Obligations.DiscardQueueEmpties
  intro n h expected pad s hr hn hrange _
  refine ⟨fun hrun => exec_result rfl hr rfl hn rfl (if_pos hrun), fun hrun =>
    ⟨_, fun i g hg => ?_, fun i hi => ?_, exec_result rfl hr rfl hn rfl (if_neg hrun)⟩⟩
  · have hlt : s.engine.rowCounters[i] < g.h := (hrange i g (by rw [hg]; rfl)).2
    simp only [Fin.getElem_fin, Vector.getElem_ofFn] at hg ⊢
    rw [hg]
    exact rollBack_spec _ hlt
  · simp only [Fin.getElem_fin, Vector.getElem_ofFn]
    have hnone : loadedGeometry s.tables.weaves[i] = none := by
      cases hw : s.tables.weaves[i] with
      | loaded g => exact absurd hw (hi g)
      | empty => rfl
      | invalid x => rfl
    rw [rollBack, show loadedGeometry s.tables.weaves[i.val] = none from hnone]

/-- The settled hooks that clearing the map adds: each listed and not settled before, none twice, all forced (R32). -/
theorem settleListed_spec (es : List FaultEntry) (s : State) :
    ∃ (added : List (Nat × Bool)) (draws : Nat),
      (∀ q ∈ added, q.2 = true ∧ (∃ e ∈ es, e.hook = q.1) ∧ ∀ p ∈ s.engine.settled, p.1 ≠ q.1) ∧
        (added.map Prod.fst).Nodup ∧ s.draws ≤ draws ∧
        settleListed es s = (s.setEngine { s.engine with settled := added ++ s.engine.settled }).setDraws draws := by
  induction es generalizing s with
  | nil => exact ⟨[], s.draws, by simp, List.nodup_nil, le_rfl, rfl⟩
  | cons e es ih =>
    obtain ⟨first, d, hfirst, hd, hs1⟩ := settleHook_adds e.hook true s
    obtain ⟨later, d', hlater, hnodup, hd', hs2⟩ := ih (settleHook e.hook true s)
    rw [hs1] at hlater hd' hs2
    refine ⟨later ++ first, d', fun q hq => ?_, ?_, hd.trans hd', ?_⟩
    · rcases List.mem_append.mp hq with hq | hq
      · obtain ⟨hforced, ⟨x, hx, hxq⟩, hnew⟩ := hlater q hq
        exact ⟨hforced, ⟨x, List.mem_cons_of_mem _ hx, hxq⟩, fun p hp => hnew p (List.mem_append_right _ hp)⟩
      · rcases hfirst with rfl | ⟨rfl, hnew⟩
        · cases hq
        · obtain rfl := List.mem_singleton.mp hq
          exact ⟨rfl, ⟨e, List.mem_cons_self, rfl⟩, hnew⟩
    · rw [List.map_append, List.nodup_append]
      refine ⟨hnodup, ?_, fun a ha b hb hab => ?_⟩
      · rcases hfirst with rfl | ⟨rfl, -⟩ <;> simp
      · obtain ⟨q, hq, rfl⟩ := List.mem_map.mp ha
        obtain ⟨p, hp, rfl⟩ := List.mem_map.mp hb
        exact (hlater q hq).2.2 p (List.mem_append_left _ hp) hab.symm
    · rw [settleListed, hs1, hs2]
      simp [State.setEngine, State.setDraws]

/-- With no record under work nothing is settled. -/
theorem settleListed_of_no_work (es : List FaultEntry) {s : State} (hb : s.engine.backlog = []) :
    settleListed es s = s := by
  induction es with
  | nil => rfl
  | cons e es ih =>
    have hfirst : settleHook e.hook true s = s := if_pos (by simp [hb])
    rw [settleListed, hfirst, ih]

/-- Settles O37: the history by the node state, the map by what clearing it settles. -/
theorem clearHistoryAndFaultMap : Obligations.ClearHistoryAndFaultMap := by
  unfold Obligations.ClearHistoryAndFaultMap
  intro n h pad s hr hn
  have hclear : s.control.node ≠ .run → ∀ u, clearMap s = u →
      exec (.clearFaultMap h pad) s = .next (answered n h (0x0C#8 :: pad) .accepted [] u) := by
    rintro hrun _ rfl
    exact exec_result rfl hr rfl hn rfl (if_neg hrun)
  refine ⟨fun hi => exec_result rfl hr rfl hn rfl (if_pos hi), fun hi => exec_result rfl hr rfl hn rfl (if_neg hi),
    fun hrun => exec_result rfl hr rfl hn rfl (if_pos hrun), fun hrun hb => hclear hrun _ ?_, fun hrun => ?_⟩
  · simp only [clearMap, settleListed_of_no_work _ hb]
  · obtain ⟨added, draws, hadded, hnodup, hdraws, hs⟩ := settleListed_spec s.health.faultMap s
    refine ⟨added, draws, hadded, hnodup, hdraws, hclear hrun _ ?_⟩
    simp only [clearMap, hs]
    rfl

theorem mem_toNat_iff (kinds : List Byte) (m : Nat) : m ∈ kinds.map BitVec.toNat ↔ ∃ b ∈ kinds, b.toNat = m :=
  List.mem_map

theorem names_weftMissing_iff (kinds : List Byte) :
    (kindNumber .weftMissing).val ∈ kinds.map BitVec.toNat ↔ 0x02#8 ∈ kinds := by
  rw [mem_toNat_iff]
  constructor
  · rintro ⟨b, hb, hb2⟩
    exact (BitVec.eq_of_toNat_eq hb2 : b = 0x02#8) ▸ hb
  · exact fun hb => ⟨_, hb, rfl⟩

theorem clearEvents_eq (kinds : List Byte) (s : State) :
    clearEvents (kinds.map BitVec.toNat) s =
      (s.setControl { s.control with events := clearNamedEvents (kinds.map BitVec.toNat) s.control.events }).setWeft
        (if 0x02#8 ∈ kinds then { s.weft with outside := 0 } else s.weft) := by
  generalize hs1 : s.setControl { s.control with events := clearNamedEvents (kinds.map BitVec.toNat) s.control.events } = s1
  have hweft : s1.weft = s.weft := by rw [← hs1, setControl_weft]
  simp only [clearEvents, names_weftMissing_iff, hs1]
  by_cases hw : 0x02#8 ∈ kinds
  · rw [if_pos hw, if_pos hw, hweft]
  · rw [if_neg hw, if_neg hw, ← hweft, setWeft_self]

/-- Settles O38: the kinds judged, then each record by whether it is named. -/
theorem clearEventsClears : Obligations.ClearEventsClears := by
  unfold Obligations.ClearEventsClears
  intro n h kinds pad s hr hn
  refine ⟨fun ⟨b, hb, hlt⟩ => ?_, fun hall => ⟨clearNamedEvents (kinds.map BitVec.toNat) s.control.events, fun k => ?_, ?_⟩⟩
  · have hrefused : cmdClearEvents kinds s = refuse .range s := if_neg fun hall => by
      have hle := List.all_eq_true.mp hall b hb
      simp only [decide_eq_true_eq] at hle
      omega
    exact exec_result rfl hr rfl hn rfl hrefused
  · rw [RunControl.clearNamedEvents_getElem]
    simp only [mem_toNat_iff]
    rfl
  · have hpass : kinds.all (fun b => decide (b.toNat ≤ 25)) = true := List.all_eq_true.mpr (by simpa using hall)
    have haccepted : cmdClearEvents kinds s = accept (clearEvents (kinds.map BitVec.toNat) s) := if_pos hpass
    rw [clearEvents_eq] at haccepted
    exact exec_result rfl hr rfl hn rfl haccepted

/-! ## RELEASE MODULE (R130) -/

theorem cmdRelease_range {chain module : Nat} (s : State) (h : 6 ≤ chain ∨ 128 ≤ module) :
    cmdRelease chain module s = refuse .range s := by
  unfold cmdRelease
  split
  · exact if_neg (by omega)
  · rfl

theorem cmdRelease_at (c : Fin 6) {module : Nat} (s : State) (hm : module ≤ 127) :
    cmdRelease c module s = releaseAt c module s := by
  rw [cmdRelease, dif_pos c.isLt, if_pos hm]

/-- Settles O39: the checks of R130 in order. -/
theorem releaseModuleReleases : Obligations.ReleaseModuleReleases := by
  unfold Obligations.ReleaseModuleReleases
  intro n h chain module pad s hr hn
  have hexec : ∀ {u o}, cmdRelease chain.toNat module.toNat s = { state := u, outcome := o, reply := [] } →
      exec (.releaseModule h chain module pad) s = .next (answered n h ([0x0D#8, chain, module] ++ pad) o [] u) :=
    fun hres => exec_result rfl hr rfl hn rfl hres
  refine ⟨fun hout => hexec (cmdRelease_range s hout), fun c hc hm hlen => ?_⟩
  rw [hc, cmdRelease_at c s hm] at hexec
  refine ⟨fun hcount => hexec (if_neg (by omega)), fun r hget => ?_⟩
  have hlt : module.toNat < moduleCount s.selector.chains[c] := hlen ▸ (List.getElem?_eq_some_iff.mp hget).1
  have hrecord : moduleRecord s c module.toNat = some r := hget
  have hjudge : releaseAt c module.toNat s =
      if r.state = .latched then accept (releaseModule c module.toNat s) else refuse .badState s := by
    simp only [releaseAt, if_pos hlt, hrecord]
  exact ⟨fun hs => hexec (hjudge.trans (if_neg hs)), fun hs => hexec (hjudge.trans (if_pos hs))⟩

/-! ## Queries (R188) -/

/-- A query addressed to its node is performed in every node state. -/
theorem exec_query {n : Fin 4} {h : Header} {pad : List Byte} {s : State} {i : Instr} {c : Command} {space : Half}
    {body reply : List Byte} {o : OutcomeCode} (hi : commandOf i = some (h, c, pad)) (ha : addressed n h s)
    (hq : isQuery c = true) (hbody : commandBytes c ++ pad = body)
    (hspace : ∀ m, replySpace (some c) m = min space.toNat m)
    (hres : performCommand c s = { state := s, outcome := o, reply := reply }) :
    exec i s = .next (withActed (responseFrame n h (min space.toNat body.length) o reply s) s) := by
  rw [exec_of_commandOf hi, deliver_addressed ha.1 ha.2,
    executeCommand_performed false (fun hb => by cases hb) (.inr (by simp [hq])), hres, hbody, hspace]

/-- The table a code names (R168). -/
theorem tableOfCode_iff (b : Byte) (t : TableId) : tableOfCode b = some t ↔ b = byteOf (tableCode t) := by
  have hcode : b = byteOf (tableCode t) ↔ b.toNat = tableCode t := by
    rw [← BitVec.toNat_inj, byteOf_toNat, Nat.mod_eq_of_lt (by cases t <;> decide)]
  rw [hcode, tableOfCode]
  cases t <;> split <;> simp_all [tableCode]

/-- A QUERY TABLE whose table and range are good is answered. -/
theorem cmdQueryTable_answer {table first count : Byte} {t : TableId} (s : State) (ht : tableOfCode table = some t)
    (hk : queryRangeOk t first.toNat count.toNat = true) :
    cmdQueryTable table first count s = answer (tableReply t first.toNat count.toNat s) s := by
  simp only [cmdQueryTable, ht, hk, if_true]

theorem cmdQueryTable_refuse {table first count : Byte} (s : State)
    (hbad : ∀ t, tableOfCode table = some t → queryRangeOk t first.toNat count.toNat = false) :
    cmdQueryTable table first count s = refuse .range s := by
  unfold cmdQueryTable
  split
  · rfl
  · rename_i t ht
    rw [hbad t ht]
    rfl

/-- Settles O40: each query's reply, and of QUERY TABLE the range of each table. -/
theorem queriesChangeNothing : Obligations.QueriesChangeNothing := by
  unfold Obligations.QueriesChangeNothing
  intro n h space pad s ha
  refine ⟨exec_query rfl ha rfl rfl (fun _ => rfl) rfl, exec_query rfl ha rfl rfl (fun _ => rfl) rfl,
    exec_query rfl ha rfl rfl (fun _ => rfl) rfl, exec_query rfl ha rfl rfl (fun _ => rfl) rfl,
    exec_query rfl ha rfl rfl (fun _ => rfl) rfl, fun table first count => ⟨fun t ht hrange => ?_, fun hrange => ?_⟩⟩
  · refine exec_query rfl ha rfl rfl (fun _ => rfl) (cmdQueryTable_answer s ht ?_)
    obtain rfl := (tableOfCode_iff table t).mp ht
    cases t <;> simpa [tableCode, byteOf, queryRangeOk, and_assoc] using hrange
  · refine exec_query rfl ha rfl rfl (fun _ => rfl) (cmdQueryTable_refuse s fun t ht => ?_)
    obtain rfl := (tableOfCode_iff table t).mp ht
    rw [← Bool.not_eq_true]
    cases t <;> simpa [tableCode, byteOf, queryRangeOk, and_assoc] using hrange

/-! ## RESET (R191) -/

theorem startRows_getElem (v : Vector WeaveSlot 16) (i : Fin 16) :
    (startRows v)[i] = ((loadedGeometry v[i]).map Geometry.start).getD 0 := by
  simp [startRows]

theorem resetNode_events (s : State) (k : Fin 26) :
    (resetNode s).control.events[k] = { flag := false, count := 0, level := s.control.events[k].level } := by
  have hk : (resetNode s).control.events[k] = clearedRecord s.control.events[k] := by
    simp [resetNode, resetControl, clearAllEvents, resetHealth, beginSizing, resetAdmission]
  rw [hk]
  rfl

theorem resetNode_attention (s : State) : attention (resetNode s) = false := by
  rw [← Bool.not_eq_true, attention, exists_event_iff]
  rintro ⟨k, hk⟩
  rw [resetNode_events] at hk
  simp [callsAttention] at hk

/-- Settles O42: RESET is executed in every node state, and each block's values are read off it. -/
theorem resetResets : Obligations.ResetResets := by
  unfold Obligations.ResetResets
  intro n h pad s hr
  have hres : performCommand .reset s = { state := resetNode s, outcome := .accepted, reply := [] } := rfl
  have hexec : exec (.reset h pad) s = .next (answered n h (0x0F#8 :: pad) .accepted [] (resetNode s)) := by
    rw [exec_performed (c := .reset) (pad := pad) rfl hr rfl (.inr rfl), hres]
    rfl
  refine ⟨resetNode s, hexec, rfl, by simp, rfl, rfl, ⟨rfl, rfl, fun i => ?_⟩, rfl, rfl, rfl, rfl, rfl,
    resetNode_events s, by simp, by simp, by simp, ?_⟩
  · refine (startRows_getElem s.tables.weaves i).trans ?_
    cases s.tables.weaves[i] <;> rfl
  · have hnode : (resetNode s).control.node = .init := rfl
    have hrewind : rewindActive (resetNode s) = false := rfl
    have hfree : queueFree (resetNode s) = 8 := rfl
    simp only [slotWord, resetNode_attention, hnode, hrewind, hfree]
    rfl

end Sys2Proof.Proofs.RunRows

/-! PROOFS. The load transaction (R3-R13, R184-R187): LOAD OPEN and LOAD DATA by their checks in order, LOAD CLOSE and LOAD
ABORT, and what the close checks of each table say of its entries. -/

namespace Sys2Proof.Proofs.LoadRows

open Sys2Proof Sys2Proof.Machine Sys2Proof.Proofs.CommandRows Sys2Proof.Proofs.RunRows Sys2Proof.Proofs.RowCounters

section
variable {n : Fin 4} {h : Header} {pad : List Byte} {s : State} {i : Instr} {c : Command}

/-- A row addressed to its node and not a query, by the result of its command. -/
theorem exec_addressed_result {body : List Byte} {o : OutcomeCode} {reply : List Byte} {u : State}
    (hi : commandOf i = some (h, c, pad)) (ha : addressed n h s) (hq : isQuery c = false) (hn : s.control.node ≠ .init)
    (hbody : commandBytes c ++ pad = body) (hres : performCommand c s = { state := u, outcome := o, reply := reply }) :
    exec i s = .next (answered n h body o reply u) := by
  rw [exec_addressed hi ha hq hn, hres, hbody]
end

/-! ## LOAD OPEN (R184) -/

section
variable {table first count : Byte} {s : State} {t : TableId}

theorem cmdLoadOpen_of_open (hload : s.load ≠ none) : cmdLoadOpen table first count s = refuse .busy s := by
  simp only [cmdLoadOpen, judgeOpen, if_pos hload]

theorem cmdLoadOpen_of_bad_range (hload : s.load = none)
    (hbad : ∀ t, tableOfCode table = some t → loadRangeOk t first.toNat count.toNat = false) :
    cmdLoadOpen table first count s = refuse .range s := by
  have hjudge : judgeOpen table first count s = (.range, none) := by
    unfold judgeOpen
    rw [if_neg (by simp [hload])]
    split
    · rfl
    · rename_i t ht
      rw [if_pos (hbad t ht)]
  simp only [cmdLoadOpen, hjudge]

theorem judgeOpen_of_range (hload : s.load = none) (ht : tableOfCode table = some t)
    (hrange : loadRangeOk t first.toNat count.toNat = true) :
    judgeOpen table first count s =
      if s.engine.backlog ≠ [] then (.busy, none)
      else if t = .weave ∧ s.store.queue ≠ [] then (.busy, none)
      else (.accepted, some t) := by
  unfold judgeOpen
  rw [if_neg (by simp [hload])]
  simp only [ht, hrange, Bool.true_eq_false, if_false]

theorem cmdLoadOpen_of_backlog (hload : s.load = none) (ht : tableOfCode table = some t)
    (hrange : loadRangeOk t first.toNat count.toNat = true) (hb : s.engine.backlog ≠ []) :
    cmdLoadOpen table first count s = refuse .busy s := by
  simp only [cmdLoadOpen, judgeOpen_of_range hload ht hrange, if_pos hb]

theorem cmdLoadOpen_of_queue (hload : s.load = none) (ht : tableOfCode table = some .weave)
    (hrange : loadRangeOk .weave first.toNat count.toNat = true) (hb : s.engine.backlog = [])
    (hqueue : s.store.queue ≠ []) : cmdLoadOpen table first count s = refuse .busy s := by
  simp only [cmdLoadOpen, judgeOpen_of_range hload ht hrange, if_neg (not_not_intro hb), true_and, if_pos hqueue]

theorem cmdLoadOpen_accepted (hload : s.load = none) (ht : tableOfCode table = some t)
    (hrange : loadRangeOk t first.toNat count.toNat = true) (hb : s.engine.backlog = [])
    (hqueue : t = .weave → s.store.queue = []) :
    cmdLoadOpen table first count s =
      { state := (openTarget t first.toNat count.toNat s).setLoad
          (some ⟨t, first.toNat, count.toNat, count.toNat, 0⟩),
        outcome := .accepted, reply := [count] } := by
  have hnot : ¬(t = .weave ∧ s.store.queue ≠ []) := fun hc => hc.2 (hqueue hc.1)
  simp only [cmdLoadOpen, judgeOpen_of_range hload ht hrange, if_neg (not_not_intro hb), if_neg hnot]

theorem tableOfCode_self (t : TableId) : tableOfCode (byteOf (tableCode t)) = some t :=
  (tableOfCode_iff _ t).mpr rfl

/-- The range of a LOAD OPEN as the statement spells it. -/
theorem loadRange_iff :
    (((table = 0x01#8 ∨ table = 0x02#8) ∧ first.toNat ≤ 15 ∧ 1 ≤ count.toNat ∧ first.toNat + count.toNat ≤ 16) ∨
        (table = 0x03#8 ∧ first.toNat = 0 ∧ count.toNat ≤ 64) ∨
        (table = 0x04#8 ∧ first.toNat ≤ 7 ∧ 1 ≤ count.toNat ∧ first.toNat + count.toNat ≤ 8)) ↔
      ∃ t, tableOfCode table = some t ∧ loadRangeOk t first.toNat count.toNat = true := by
  constructor
  · rintro (⟨rfl | rfl, hk⟩ | ⟨rfl, hk⟩ | ⟨rfl, hk⟩)
    · exact ⟨.weave, tableOfCode_self .weave, by simpa [loadRangeOk, and_assoc] using hk⟩
    · exact ⟨.codemap, tableOfCode_self .codemap, by simpa [loadRangeOk, and_assoc] using hk⟩
    · exact ⟨.tie, tableOfCode_self .tie, by simpa [loadRangeOk, and_assoc] using hk⟩
    · exact ⟨.weft, tableOfCode_self .weft, by simpa [loadRangeOk, and_assoc] using hk⟩
  · rintro ⟨t, ht, hk⟩
    obtain rfl := (tableOfCode_iff table t).mp ht
    cases t <;> simpa [tableCode, byteOf, loadRangeOk, and_assoc] using hk

theorem fillRange_getElem {α : Type} {n : Nat} (first count : Nat) (x : α) (v : Vector α n) (j : Fin n) :
    (fillRange first count x v)[j] = if first ≤ j.val ∧ j.val < first + count then x else v[j] := by
  simp [fillRange]
end

/-- Settles O30: the four checks in order, then the target of each table. -/
theorem loadOpens : Obligations.LoadOpens := by
  unfold Obligations.LoadOpens
  intro n h table first count pad s ha hn
  have hexec : ∀ {o reply u}, cmdLoadOpen table first count s = { state := u, outcome := o, reply := reply } →
      exec (.loadOpen h table first count pad) s =
        .next (answered n h ([0x02#8, table, first, count] ++ pad) o reply u) :=
    fun hres => exec_addressed_result rfl ha rfl hn rfl hres
  simp only [loadRange_iff]
  refine ⟨fun hload => hexec (cmdLoadOpen_of_open hload), fun hload hbad => hexec (cmdLoadOpen_of_bad_range hload ?_),
    fun hload ⟨t, ht, hk⟩ hb => hexec (cmdLoadOpen_of_backlog hload ht hk hb), fun hload ⟨t, ht, hk⟩ hb htable hq => ?_,
    fun hload ⟨t, ht, hk⟩ hb => ?_⟩
  · intro t ht
    rw [← Bool.not_eq_true]
    exact fun hk => hbad ⟨t, ht, hk⟩
  · obtain rfl : t = .weave := by
      rw [htable] at ht
      exact (Option.some.inj ht).symm
    exact hexec (cmdLoadOpen_of_queue hload ht hk hb hq)
  · have hopen : ∀ t', table = byteOf (tableCode t') → (t' = .weave → s.store.queue = []) →
        cmdLoadOpen table first count s =
          { state := (openTarget t' first.toNat count.toNat s).setLoad
              (some ⟨t', first.toNat, count.toNat, count.toNat, 0⟩),
            outcome := .accepted, reply := [count] } := by
      intro t' ht' hq
      have hsame := (tableOfCode_iff table t').mpr ht'
      obtain rfl : t = t' := Option.some.inj (ht.symm.trans hsame)
      exact cmdLoadOpen_accepted hload ht hk hb hq
    refine ⟨fun ht' hq => ⟨_, _, fun j => ⟨fillRange_getElem _ _ _ _ j, fillRange_getElem _ _ _ _ j⟩,
        hexec (hopen .weave ht' fun _ => hq)⟩,
      fun ht' => ⟨_, fun j => fillRange_getElem _ _ _ _ j, hexec (hopen .codemap ht' fun hc => by cases hc)⟩,
      fun ht' => hexec (hopen .tie ht' fun hc => by cases hc),
      fun ht' => ⟨_, fun j => fillRange_getElem _ _ _ _ j, hexec (hopen .weft ht' fun hc => by cases hc)⟩⟩

/-! ## LOAD DATA (R185) -/

/-- Entries written from `start` on, each at its place, and nothing else. -/
theorem writeFrom_map_getElem {α β : Type} {n : Nat} (start : Nat) (f : Option α → β) (xs : List α) (v : Vector β n)
    (j : Fin n) :
    (writeFrom start (xs.map fun x => f (some x)) v)[j] =
      if start ≤ j.val ∧ j.val < start + xs.length then f xs[j.val - start]? else v[j] := by
  simp only [writeFrom, Fin.getElem_fin, Vector.getElem_ofFn, List.getD_eq_getElem?_getD, List.getElem?_map]
  by_cases hstart : start ≤ j.val
  · rw [if_pos hstart]
    by_cases hend : j.val < start + xs.length
    · have hlt : j.val - start < xs.length := by omega
      rw [if_pos ⟨hstart, hend⟩, List.getElem?_eq_getElem hlt]
      rfl
    · have hge : xs.length ≤ j.val - start := by omega
      rw [if_neg (fun hc => hend hc.2), List.getElem?_eq_none hge]
      rfl
  · rw [if_neg hstart, if_neg (fun hc => hstart hc.1)]

/-- One slot written (R185: a WEAVE frame carries one). -/
theorem writeFrom_single_getElem (start : Nat) (g : Geometry) (v : Vector WeaveSlot 16) (j : Fin 16) :
    (writeFrom start ([g].map fun x => .invalid (some x)) v)[j] = if j.val = start then .invalid (some g) else v[j] := by
  rw [writeFrom_map_getElem start WeaveSlot.invalid [g] v j]
  by_cases hj : j.val = start
  · simp [hj]
  · rw [if_neg hj, if_neg (by simp only [List.length_singleton]; omega)]

section
variable {sequence count : Byte} {bytes : List Byte} {s : State} {ld : Load}

theorem cmdLoadData_of_none (hload : s.load = none) :
    cmdLoadData sequence count bytes s = { state := s, outcome := .badState, reply := [0, 0] } := by
  simp only [cmdLoadData, hload]
  rfl

theorem cmdLoadData_of_sequence (hload : s.load = some ld) (hs : sequence.toNat ≠ ld.sequence) :
    cmdLoadData sequence count bytes s =
      { state := s, outcome := .sequence, reply := [byteOf ld.remaining, byteOf ld.sequence] } := by
  simp only [cmdLoadData, hload, if_pos hs]
  rfl

theorem cmdLoadData_of_bad (hload : s.load = some ld) (hs : sequence.toNat = ld.sequence)
    (hbad : dataEntries ld count.toNat bytes = none) :
    cmdLoadData sequence count bytes s =
      { state := s, outcome := .range, reply := [byteOf ld.remaining, byteOf ld.sequence] } := by
  simp only [cmdLoadData, hload, if_neg (not_not_intro hs), hbad]
  rfl

theorem cmdLoadData_accepted {e : LoadEntries} (hload : s.load = some ld) (hs : sequence.toNat = ld.sequence)
    (he : dataEntries ld count.toNat bytes = some e) :
    cmdLoadData sequence count bytes s =
      { state := (s.setTables (writeEntries (ld.first + (ld.count - ld.remaining)) e s.tables)).setLoad
          (some { ld with remaining := ld.remaining - count.toNat, sequence := ld.sequence + 1 }),
        outcome := .accepted, reply := [byteOf (ld.remaining - count.toNat), byteOf (ld.sequence + 1)] } := by
  simp only [cmdLoadData, hload, if_neg (not_not_intro hs), he]
  rfl
end

/-- Settles O31: the three checks in order, then the entries of each table. -/
theorem loadDataWrites : Obligations.LoadDataWrites := by
  unfold Obligations.LoadDataWrites
  intro n h sequence count bytes s ha hn
  have hexec : ∀ {o reply u}, cmdLoadData sequence count bytes s = { state := u, outcome := o, reply := reply } →
      exec (.loadData h sequence count bytes) s =
        .next (answered n h ([0x03#8, sequence, count] ++ bytes) o reply u) :=
    fun hres => exec_addressed_result rfl ha rfl hn (List.append_nil _) hres
  refine ⟨fun hload => hexec (cmdLoadData_of_none hload), fun ld hload => ?_⟩
  intro held most start next now
  have hmost : most = maxEntries ld.table := by
    simp only [most]
    cases ld.table <;> rfl
  refine ⟨fun hs => hexec (cmdLoadData_of_sequence hload hs), fun hs => ⟨fun hbad => hexec (cmdLoadData_of_bad hload hs ?_),
    fun hone hle hrem => ?_⟩⟩
  · unfold dataEntries
    split
    · rename_i hgood
      rcases hbad with hbad | hbad | hbad | hbad
      · omega
      · rw [hmost] at hbad
        omega
      · omega
      · exact hbad
    · rfl
  · have hpass : 1 ≤ count.toNat ∧ count.toNat ≤ maxEntries ld.table ∧ count.toNat ≤ ld.remaining :=
      ⟨hone, hmost ▸ hle, hrem⟩
    have haccept : ∀ {e u}, decodeEntries ld.table count.toNat bytes = some e → writeEntries start e s.tables = u →
        exec (.loadData h sequence count bytes) s =
          .next (answered n h ([0x03#8, sequence, count] ++ bytes) .accepted now (next u)) := by
      rintro e _ he rfl
      exact hexec (cmdLoadData_accepted hload hs ((if_pos hpass).trans he))
    exact ⟨fun g hg => ⟨_, fun j => writeFrom_single_getElem _ g _ j, haccept hg rfl⟩,
      fun xs hx => ⟨_, fun j => writeFrom_map_getElem _ CodeEntry.unmapped xs _ j, haccept hx rfl⟩,
      fun xs hx => haccept hx rfl,
      fun xs hx => ⟨_, fun j => writeFrom_map_getElem _ WeftEntry.unmapped xs _ j, haccept hx rfl⟩⟩

/-! ## LOAD CLOSE and LOAD ABORT (R186, R187) -/

/-- The first index of a load's range that fails a test, the ones below passing it. -/
theorem firstFailing_eq_some {ld : Load} {passes : Nat → Bool} {i : Nat} (hin : inLoad ld i = true)
    (hfail : passes i = false) (hbelow : ∀ k < i, inLoad ld k = true → passes k = true) :
    firstFailing ld passes = some i := by
  simp only [inLoad, decide_eq_true_eq] at hin hbelow
  unfold firstFailing
  rw [List.find?_eq_some_iff_getElem]
  refine ⟨by simp [hfail], i - ld.first, by simp only [loadIndices, List.length_map, List.length_range]; omega, ?_, ?_⟩
  · simp only [loadIndices, List.getElem_map, List.getElem_range]
    omega
  · intro j hj
    simp only [loadIndices, List.getElem_map, List.getElem_range, Bool.not_not]
    exact hbelow _ (by omega) (by omega)

section
variable {m : Nat} {ld : Load} {passes : Nat → Bool} {good : Fin m → Prop}

/-- The load's range, as a set of entries of a table of `m`. -/
abbrev Inside (ld : Load) (j : Fin m) : Prop := ld.first ≤ j.val ∧ j.val < ld.first + ld.count

theorem inLoad_iff {j : Fin m} : inLoad ld j.val = true ↔ Inside ld j := decide_eq_true_iff

/-- The lowest entry of a load's range that is not good, by a test that tells good entries of the range. -/
theorem firstFailing_some_of_entry (hgood : ∀ j : Fin m, Inside ld j → (passes j.val = true ↔ good j)) (j : Fin m)
    (hj : Inside ld j) (hbad : ¬good j) (hbelow : ∀ i < j, Inside ld i → good i) :
    firstFailing ld passes = some j.val := by
  refine firstFailing_eq_some (decide_eq_true hj) ?_ fun k hk hin => ?_
  · rw [← Bool.not_eq_true, hgood j hj]
    exact hbad
  · have hlt : k < m := hk.trans j.isLt
    have hk' : Inside ld (⟨k, hlt⟩ : Fin m) := inLoad_iff.mp hin
    exact (hgood ⟨k, hlt⟩ hk').mpr (hbelow ⟨k, hlt⟩ hk hk')

theorem firstFailing_none_of_entries (hgood : ∀ j : Fin m, Inside ld j → (passes j.val = true ↔ good j))
    (hend : ld.first + ld.count ≤ m) (hall : ∀ j : Fin m, Inside ld j → good j) : firstFailing ld passes = none := by
  rw [firstFailing_none_iff]
  intro i hin
  have hi : ld.first ≤ i ∧ i < ld.first + ld.count := of_decide_eq_true hin
  have hlt : i < m := by omega
  exact (hgood ⟨i, hlt⟩ hi).mpr (hall ⟨i, hlt⟩ hi)

/-- An entry of a table changed inside the range of a load and kept outside it. -/
theorem ofFn_inLoad_getElem {α : Type} (f : α → α) (v : Vector α m) (j : Fin m) :
    (Inside ld j → (Vector.ofFn fun i => if inLoad ld i then f v[i] else v[i])[j] = f v[j]) ∧
      (¬Inside ld j → (Vector.ofFn fun i => if inLoad ld i then f v[i] else v[i])[j] = v[j]) := by
  simp only [Fin.getElem_fin, Vector.getElem_ofFn, inLoad, decide_eq_true_eq]
  exact ⟨fun hj => if_pos hj, fun hj => if_neg hj⟩
end

theorem cmdLoadClose_of_none {s : State} (hload : s.load = none) : cmdLoadClose s = refuse .badState s := by
  simp only [cmdLoadClose, hload]

section
variable {s : State} {ld : Load} (hload : s.load = some ld)
include hload

theorem cmdLoadClose_of_remaining (hr : ld.remaining ≠ 0) :
    cmdLoadClose s = { state := s.setLoad none, outcome := .badState, reply := [byteOf ld.remaining] } := by
  simp only [cmdLoadClose, hload, if_pos hr, dropLoad]

theorem cmdLoadClose_of_fail (hr : ld.remaining = 0) {o : OutcomeCode} {index : Nat}
    (hc : checkLoad ld s.tables = .fail o index) :
    cmdLoadClose s = { state := s.setLoad none, outcome := o, reply := [byteOf index] } := by
  simp only [cmdLoadClose, hload, if_neg (not_not_intro hr), hc, dropLoad]

theorem cmdLoadClose_of_pass (hr : ld.remaining = 0) (hc : checkLoad ld s.tables = .pass) :
    cmdLoadClose s = { state := (makeUsable ld s).setLoad none, outcome := .accepted, reply := [] } := by
  simp only [cmdLoadClose, hload, if_neg (not_not_intro hr), hc, dropLoad, accept]
end

theorem cmdLoadAbort_of_none {s : State} (hload : s.load = none) : cmdLoadAbort s = refuse .badState s := by
  simp only [cmdLoadAbort, hload]

theorem cmdLoadAbort_of_open {s : State} (hload : s.load ≠ none) :
    cmdLoadAbort s = { state := s.setLoad none, outcome := .accepted, reply := [] } := by
  unfold cmdLoadAbort
  split
  · contradiction
  · rfl

/-! ### WEAVE (R4) -/

theorem slotPasses_iff {w : WeaveSlot} (hw : ∃ written, w = .invalid written) :
    slotPasses w = true ↔
      ∃ g, w = .invalid (some g) ∧ 1 ≤ g.w ∧ g.w ≤ 32 ∧ 1 ≤ g.h ∧ g.h ≤ 32 ∧ g.start < g.h ∧ g.cells.length = g.w * g.h := by
  obtain ⟨written, rfl⟩ := hw
  cases written with
  | none => simp [slotPasses, writtenGeometry]
  | some g => simp [slotPasses, writtenGeometry, geometryPasses, and_assoc]

theorem checkLoad_weave_fail {ld : Load} {t : Tables} (htable : ld.table = .weave) {i : Nat}
    (hi : firstFailing ld (fun i => ((t.weaves[i]?).map slotPasses).getD false) = some i) :
    checkLoad ld t = .fail .range i := by
  simp only [checkLoad, htable, checkWeaves, hi]

theorem checkLoad_weave_pass {ld : Load} {t : Tables} (htable : ld.table = .weave)
    (hi : firstFailing ld (fun i => ((t.weaves[i]?).map slotPasses).getD false) = none) : checkLoad ld t = .pass := by
  simp only [checkLoad, htable, checkWeaves, hi]

/-- Settles O32: the ends of a load by what is open and what remains; a WEAVE load by its slots. -/
theorem loadsEnd : Obligations.LoadsEnd := by
  unfold Obligations.LoadsEnd
  refine ⟨fun n h pad s ha hn => ?_, fun ld s htable hend => ?_⟩
  · have hclose : ∀ {o reply u}, cmdLoadClose s = { state := u, outcome := o, reply := reply } →
        exec (.loadClose h pad) s = .next (answered n h (0x04#8 :: pad) o reply u) :=
      fun hres => exec_addressed_result rfl ha rfl hn rfl hres
    have habort : ∀ {o u}, cmdLoadAbort s = { state := u, outcome := o, reply := [] } →
        exec (.loadAbort h pad) s = .next (answered n h (0x05#8 :: pad) o [] u) :=
      fun hres => exec_addressed_result rfl ha rfl hn rfl hres
    exact ⟨fun hload => ⟨hclose (cmdLoadClose_of_none hload), habort (cmdLoadAbort_of_none hload)⟩,
      fun hload => habort (cmdLoadAbort_of_open hload),
      fun ld hload => ⟨fun hr => hclose (cmdLoadClose_of_remaining hload hr), fun hr =>
        ⟨fun o i hc => hclose (cmdLoadClose_of_fail hload hr hc), fun hc => hclose (cmdLoadClose_of_pass hload hr hc)⟩⟩⟩
  · intro good inside hinvalid
    have hgood : ∀ j : Fin 16, Inside ld j → (((s.tables.weaves[j.val]?).map slotPasses).getD false = true ↔ good j) := by
      intro j hj
      rw [Vector.getElem?_eq_getElem j.isLt]
      exact slotPasses_iff (hinvalid j hj)
    refine ⟨fun j hj hbad hbelow => checkLoad_weave_fail htable (firstFailing_some_of_entry hgood j hj hbad hbelow),
      fun hall => ⟨checkLoad_weave_pass htable (firstFailing_none_of_entries hgood hend hall), ?_⟩⟩
    simp only [makeUsable, htable]
    refine ⟨_, _, rfl, fun j => ⟨fun g hj hg => ?_, fun hj => ⟨(ofFn_inLoad_getElem slotLoaded _ j).2 hj, ?_⟩⟩⟩
    · have hv := (ofFn_inLoad_getElem (ld := ld) slotLoaded s.tables.weaves j).1 hj
      rw [hg] at hv
      refine ⟨hv, ?_⟩
      have hcounter : ((loadedGeometry (slotLoaded (.invalid (some g)))).map Geometry.start).getD 0 = g.start := rfl
      rw [Fin.getElem_fin, Vector.getElem_ofFn, if_pos (inLoad_iff.mpr hj), startRows_getElem, ← hcounter, ← hv]
    · rw [Fin.getElem_fin, Vector.getElem_ofFn, if_neg (mt inLoad_iff.mp hj)]

/-! ### CODEMAP (R7) and WEFT (R13) -/

theorem weaveLoaded_iff (t : Tables) (slot : Nat) :
    weaveLoaded t slot = true ↔ ∃ (w : Fin 16) (g : Geometry), slot = w.val ∧ t.weaves[w] = .loaded g := by
  unfold weaveLoaded weaveAt
  by_cases hslot : slot < 16
  · rw [dif_pos hslot]
    constructor
    · intro hsome
      cases hw : t.weaves[slot] with
      | loaded g => exact ⟨⟨slot, hslot⟩, g, rfl, hw⟩
      | empty => simp [hw, loadedGeometry] at hsome
      | invalid x => simp [hw, loadedGeometry] at hsome
    · rintro ⟨w, g, rfl, hw⟩
      rw [show t.weaves[w.val] = .loaded g from hw]
      rfl
  · rw [dif_neg hslot]
    simp only [Option.isSome_none, Bool.false_eq_true, false_iff]
    rintro ⟨w, -, rfl, -⟩
    exact hslot w.isLt

theorem codeWritten_of_unmapped {t : Tables} {j : Fin 16} {written : Option CodeFields}
    (hj : t.codes[j] = .unmapped written) : codeWritten t j.val = written := by
  rw [codeWritten, Vector.getElem?_eq_getElem j.isLt, show t.codes[j.val] = .unmapped written from hj]
  rfl

/-- A test of what an unusable entry holds. -/
theorem getD_test_iff {α : Type} (p : α → Bool) (o : Option α) :
    (o.map p).getD false = true ↔ ∃ x, o = some x ∧ p x = true := by
  cases o <;> simp

theorem fieldsInRange_iff (f : CodeFields) :
    fieldsInRange f = true ↔ f.slot ≤ 15 ∧ f.invert ≤ 1 ∧ f.dx ≤ 31 ∧ f.dy ≤ 31 := by
  simp [fieldsInRange, and_assoc]

section
variable {ld : Load} {t : Tables} {i : Nat}

theorem checkLoad_codes_range (htable : ld.table = .codemap)
    (hi : firstFailing ld (fun i => ((codeWritten t i).map fieldsInRange).getD false) = some i) :
    checkLoad ld t = .fail .range i := by
  simp only [checkLoad, htable, checkCodes, hi]

theorem checkLoad_codes_notFound (htable : ld.table = .codemap)
    (hranged : firstFailing ld (fun i => ((codeWritten t i).map fieldsInRange).getD false) = none)
    (hi : firstFailing ld (fun i => ((codeWritten t i).map fun f => weaveLoaded t f.slot).getD false) = some i) :
    checkLoad ld t = .fail .notFound i := by
  simp only [checkLoad, htable, checkCodes, hranged, hi]

theorem checkLoad_codes_pass (htable : ld.table = .codemap)
    (hranged : firstFailing ld (fun i => ((codeWritten t i).map fieldsInRange).getD false) = none)
    (hfound : firstFailing ld (fun i => ((codeWritten t i).map fun f => weaveLoaded t f.slot).getD false) = none) :
    checkLoad ld t = .pass := by
  simp only [checkLoad, htable, checkCodes, hranged, hfound]

theorem checkLoad_wefts_range (htable : ld.table = .weft)
    (hi : firstFailing ld (fun i =>
      (((t.wefts[i]?).bind writtenFeeder).map fun f => decide (1 ≤ f ∧ f ≤ 8)).getD false) = some i) :
    checkLoad ld t = .fail .range i := by
  simp only [checkLoad, htable, checkWefts, hi]

theorem checkLoad_wefts_pass (htable : ld.table = .weft)
    (hi : firstFailing ld (fun i =>
      (((t.wefts[i]?).bind writtenFeeder).map fun f => decide (1 ≤ f ∧ f ≤ 8)).getD false) = none) :
    checkLoad ld t = .pass := by
  simp only [checkLoad, htable, checkWefts, hi]

theorem checkLoad_tie_range (htable : ld.table = .tie) (hi : firstBadSegment 0 0 t.tie = some i) :
    checkLoad ld t = .fail .range i := by
  simp only [checkLoad, htable, checkTie, hi]

theorem checkLoad_tie_notFound (htable : ld.table = .tie) (hranged : firstBadSegment 0 0 t.tie = none)
    (hi : (t.tie.findIdx? fun g => !segmentReady t g) = some i) : checkLoad ld t = .fail .notFound i := by
  simp only [checkLoad, htable, checkTie, hranged, hi]

theorem checkLoad_tie_pass (htable : ld.table = .tie) (hranged : firstBadSegment 0 0 t.tie = none)
    (hi : (t.tie.findIdx? fun g => !segmentReady t g) = none) : checkLoad ld t = .pass := by
  simp only [checkLoad, htable, checkTie, hranged, hi]
end

/-! ### TIE (R11) -/

/-- The end of the segment before position `j`, or `e` for the first. -/
def previousEnd (e : Nat) (gs : List Segment) : Nat → Nat
  | 0 => e
  | j + 1 => ((gs[j]?).map fun g => g.h0 + g.n).getD 0

/-- The segment at position `j` passes the first pass of R11. -/
def SegmentOk (e : Nat) (gs : List Segment) (j : Nat) : Prop :=
  ∃ g, gs[j]? = some g ∧ segmentInRange g = true ∧ previousEnd e gs j ≤ g.h0

theorem segmentOk_cons_zero (e : Nat) (g : Segment) (gs : List Segment) :
    SegmentOk e (g :: gs) 0 ↔ segmentInRange g = true ∧ e ≤ g.h0 := by
  simp [SegmentOk, previousEnd]

theorem segmentOk_cons_succ (e : Nat) (g : Segment) (gs : List Segment) (j : Nat) :
    SegmentOk e (g :: gs) (j + 1) ↔ SegmentOk (g.h0 + g.n) gs j := by
  have hprev : previousEnd e (g :: gs) (j + 1) = previousEnd (g.h0 + g.n) gs j := by
    cases j <;> simp [previousEnd]
  simp only [SegmentOk, List.getElem?_cons_succ, hprev]

theorem firstBadSegment_some (gs : List Segment) (k e j : Nat) (hj : j < gs.length) (hbad : ¬SegmentOk e gs j)
    (hbelow : ∀ i < j, SegmentOk e gs i) : firstBadSegment k e gs = some (k + j) := by
  induction gs generalizing k e j with
  | nil => cases hj
  | cons g gs ih =>
    cases j with
    | zero => exact if_neg (mt (segmentOk_cons_zero e g gs).mpr hbad)
    | succ j =>
      have hfirst := (segmentOk_cons_zero e g gs).mp (hbelow 0 (Nat.succ_pos j))
      rw [firstBadSegment, if_pos hfirst]
      rw [ih (k + 1) (g.h0 + g.n) j (Nat.lt_of_succ_lt_succ hj) (mt (segmentOk_cons_succ e g gs j).mpr hbad)
        fun i hi => (segmentOk_cons_succ e g gs i).mp (hbelow (i + 1) (by omega))]
      congr 1
      omega

theorem firstBadSegment_none (gs : List Segment) (k e : Nat) (hall : ∀ j < gs.length, SegmentOk e gs j) :
    firstBadSegment k e gs = none := by
  induction gs generalizing k e with
  | nil => rfl
  | cons g gs ih =>
    have hfirst := (segmentOk_cons_zero e g gs).mp (hall 0 (Nat.succ_pos _))
    rw [firstBadSegment, if_pos hfirst]
    exact ih (k + 1) (g.h0 + g.n) fun j hj => (segmentOk_cons_succ e g gs j).mp (hall (j + 1) (Nat.succ_lt_succ hj))

theorem segmentInRange_iff (g : Segment) :
    segmentInRange g = true ↔
      g.h0 ≤ 12287 ∧ 1 ≤ g.n ∧ g.n ≤ 12288 ∧ (g.direction = .asc ∨ g.direction = .desc) ∧ g.c0 ≤ 16383 ∧ g.e0 ≤ 31 ∧
        (g.kind = .figure ∨ g.kind = .void ∨
          (g.kind = .selvedge ∧ ∃ slot invert, g.selvedge = some (slot, invert) ∧ slot ≤ 15 ∧ invert ≤ 1)) ∧
        g.h0 + g.n ≤ 12288 := by
  have hselvedge : (g.selvedge.map fun p => decide (p.1 ≤ 15 ∧ p.2 ≤ 1)).getD false = true ↔
      ∃ slot invert, g.selvedge = some (slot, invert) ∧ slot ≤ 15 ∧ invert ≤ 1 := by
    rw [getD_test_iff]
    constructor
    · rintro ⟨⟨slot, invert⟩, hp, hr⟩
      exact ⟨slot, invert, hp, of_decide_eq_true hr⟩
    · rintro ⟨slot, invert, hp, hr⟩
      exact ⟨(slot, invert), hp, decide_eq_true hr⟩
  simp only [segmentInRange, Bool.and_eq_true, Bool.or_eq_true, decide_eq_true_eq, beq_iff_eq, hselvedge, and_assoc,
    or_assoc]

theorem segmentOk_iff (tie : List Segment) (j : Fin tie.length) :
    SegmentOk 0 tie j.val ↔
      segmentInRange tie[j] = true ∧ ∀ i : Fin tie.length, i.val + 1 = j.val → tie[i].h0 + tie[i].n ≤ tie[j].h0 := by
  have hget : tie[j.val]? = some tie[j] := List.getElem?_eq_getElem j.isLt
  have hprev : previousEnd 0 tie j.val ≤ tie[j].h0 ↔
      ∀ i : Fin tie.length, i.val + 1 = j.val → tie[i].h0 + tie[i].n ≤ tie[j].h0 := by
    obtain ⟨j, hj⟩ := j
    cases j with
    | zero => simp [previousEnd]
    | succ j =>
      have hlt : j < tie.length := by omega
      simp only [previousEnd, List.getElem?_eq_getElem hlt, Option.map_some, Option.getD_some, Nat.add_right_cancel_iff]
      exact ⟨fun h i hi => by obtain ⟨i, hi'⟩ := i; obtain rfl : i = j := hi; exact h, fun h => h ⟨j, hlt⟩ rfl⟩
  simp only [SegmentOk, hget, Option.some.injEq, exists_eq_left', hprev]

theorem segmentReady_iff (t : Tables) (g : Segment) :
    segmentReady t g = true ↔ (g.kind = .selvedge →
      ∃ (slot : Fin 16) (invert : Nat) (w : Geometry),
        g.selvedge = some (slot.val, invert) ∧ t.weaves[slot] = .loaded w) := by
  unfold segmentReady
  split
  · rename_i slot invert hk hs
    simp only [weaveLoaded_iff, hk, hs, true_implies, Option.some.injEq, Prod.mk.injEq]
    constructor
    · rintro ⟨w, x, hw, hx⟩
      exact ⟨w, invert, x, ⟨hw, rfl⟩, hx⟩
    · rintro ⟨w, _, x, ⟨hw, -⟩, hx⟩
      exact ⟨w, x, hw, hx⟩
  · rename_i hk hs
    simp [hk, hs]
  · rename_i hk hs
    refine iff_of_true rfl fun hsel => ?_
    cases hsv : g.selvedge with
    | none => exact absurd hsv (hs hsel)
    | some p => exact absurd hsv (hk p.1 p.2 hsel)

/-- Settles O33: of each table the lowest entry that fails a pass, and then the entries made usable. -/
theorem codeWeftAndTieCloses : Obligations.CodeWeftAndTieCloses := by
  unfold Obligations.CodeWeftAndTieCloses
  refine ⟨fun ld s htable hend => ?_, fun ld s htable hend => ?_, fun ld s htable => ?_⟩
  · intro inside holds ranged found hunmapped
    have htest : ∀ (p : CodeFields → Bool) (j : Fin 16), Inside ld j →
        (((codeWritten s.tables j.val).map p).getD false = true ↔ ∃ f, holds j f ∧ p f = true) := by
      intro p j hj
      obtain ⟨written, hw⟩ := hunmapped j hj
      have hiff : ∀ f, holds j f ↔ written = some f := fun f => by
        simp only [holds, hw, CodeEntry.unmapped.injEq]
      simp only [codeWritten_of_unmapped hw, getD_test_iff, hiff]
    have hranged : ∀ j : Fin 16, Inside ld j →
        (((codeWritten s.tables j.val).map fieldsInRange).getD false = true ↔ ranged j) := by
      intro j hj
      rw [htest _ j hj]
      simp only [fieldsInRange_iff]
      rfl
    have hfound : ∀ j : Fin 16, Inside ld j →
        (((codeWritten s.tables j.val).map fun f => weaveLoaded s.tables f.slot).getD false = true ↔ found j) := by
      intro j hj
      rw [htest _ j hj]
      simp only [weaveLoaded_iff]
      rfl
    refine ⟨fun j hj hbad hbelow => checkLoad_codes_range htable (firstFailing_some_of_entry hranged j hj hbad hbelow),
      fun hall => ?_⟩
    have hnone : firstFailing ld (fun i => ((codeWritten s.tables i).map fieldsInRange).getD false) = none :=
      firstFailing_none_of_entries hranged hend hall
    refine ⟨fun j hj hbad hbelow =>
        checkLoad_codes_notFound htable hnone (firstFailing_some_of_entry hfound j hj hbad hbelow),
      fun hall' => ⟨checkLoad_codes_pass htable hnone (firstFailing_none_of_entries hfound hend hall'), ?_⟩⟩
    simp only [makeUsable, htable]
    refine ⟨_, rfl, fun j => ⟨fun f hj hf => ?_, (ofFn_inLoad_getElem entryMapped _ j).2⟩⟩
    rw [(ofFn_inLoad_getElem (ld := ld) entryMapped s.tables.codes j).1 hj, hf]
    rfl
  · intro inside ranged hunmapped
    have hranged : ∀ j : Fin 8, Inside ld j →
        ((((s.tables.wefts[j.val]?).bind writtenFeeder).map fun f => decide (1 ≤ f ∧ f ≤ 8)).getD false = true ↔
          ranged j) := by
      intro j hj
      obtain ⟨written, hw⟩ := hunmapped j hj
      have hget : (s.tables.wefts[j.val]?).bind writtenFeeder = written := by
        rw [Vector.getElem?_eq_getElem j.isLt, show s.tables.wefts[j.val] = .unmapped written from hw]
        rfl
      simp only [hget, getD_test_iff, decide_eq_true_eq, ranged, hw, WeftEntry.unmapped.injEq]
    refine ⟨fun j hj hbad hbelow => checkLoad_wefts_range htable (firstFailing_some_of_entry hranged j hj hbad hbelow),
      fun hall => ⟨checkLoad_wefts_pass htable (firstFailing_none_of_entries hranged hend hall), ?_⟩⟩
    simp only [makeUsable, htable]
    refine ⟨_, rfl, fun j => ⟨fun f hj hf => ?_, (ofFn_inLoad_getElem weftMapped _ j).2⟩⟩
    rw [(ofFn_inLoad_getElem (ld := ld) weftMapped s.tables.wefts j).1 hj, hf]
    rfl
  · intro tie ranged found
    have hranged : ∀ j : Fin tie.length, SegmentOk 0 tie j.val ↔ ranged j := by
      intro j
      rw [segmentOk_iff, segmentInRange_iff]
      simp only [ranged, and_assoc]
    have hfound : ∀ j : Fin tie.length, segmentReady s.tables tie[j] = true ↔ found j := fun j =>
      segmentReady_iff s.tables tie[j]
    refine ⟨fun j hbad hbelow => checkLoad_tie_range htable ?_, fun hall => ?_⟩
    · have hfirst := firstBadSegment_some tie 0 0 j.val j.isLt (mt (hranged j).mp hbad)
        fun i hi => (hranged ⟨i, hi.trans j.isLt⟩).mpr (hbelow ⟨i, hi.trans j.isLt⟩ hi)
      rwa [Nat.zero_add] at hfirst
    · have hnone : firstBadSegment 0 0 tie = none :=
        firstBadSegment_none tie 0 0 fun j hj => (hranged ⟨j, hj⟩).mpr (hall ⟨j, hj⟩)
      refine ⟨fun j hbad hbelow => checkLoad_tie_notFound htable hnone ?_, fun hall' =>
        ⟨checkLoad_tie_pass htable hnone ?_, by simp only [makeUsable, htable]⟩⟩
      · rw [List.findIdx?_eq_some_iff_getElem]
        refine ⟨j.isLt, ?_, fun i hi => ?_⟩
        · simpa using mt (hfound j).mp hbad
        · simpa using (hfound ⟨i, hi.trans j.isLt⟩).mpr (hbelow ⟨i, hi.trans j.isLt⟩ hi)
      · rw [List.findIdx?_eq_none_iff]
        intro g hg
        obtain ⟨i, hi, rfl⟩ := List.mem_iff_getElem.mp hg
        simpa using (hfound ⟨i, hi⟩).mpr (hall' ⟨i, hi⟩)

end Sys2Proof.Proofs.LoadRows

/-! PROOFS. Receiving and sending frames (R154-R159, R167, R168): delimiters and the reception timer, what makes a frame bad,
that a good frame's bytes act as its row, and the transmitter. -/

namespace Sys2Proof.Proofs.RingRows

open Sys2Proof Sys2Proof.Machine Sys2Proof.Laws Sys2Proof.Proofs.CommandRows Sys2Proof.Proofs.PortLaws

/-! ## Delimiters and the reception timer (R154, R155, R157) -/

theorem receiveSymbols_of_waiting {p : RingPort} (symbols : List LineSymbol) (h : p.receiver = .waiting) :
    receiveSymbols symbols p = p := by
  simp only [receiveSymbols, h]

theorem receiveSymbols_of_discarding {p : RingPort} (symbols : List LineSymbol) (h : p.receiver = .discarding) :
    receiveSymbols symbols p = p := by
  simp only [receiveSymbols, h]

theorem receiveSymbols_of_receiving {p : RingPort} {i : StoreId} (symbols : List LineSymbol)
    (h : p.receiver = .receiving i) :
    receiveSymbols symbols p = putStore i (symbols.foldl storeSymbol (getStore p i)) p := by
  simp only [receiveSymbols, h]

/-- A start delimiter while WAITING begins a frame. -/
theorem exec_startDelimiter_of_waiting {s : State} (symbols : List LineSymbol) (h : s.port.receiver = .waiting) :
    exec (.startDelimiter symbols) s = .next (beginFrame s) := by
  show Host.Outcome.next (beginFrame (cutShort (s.setPort (receiveSymbols symbols s.port)))) = _
  rw [receiveSymbols_of_waiting symbols h, setPort_self]
  simp only [cutShort, h]

theorem exec_frameEnd (symbols : List LineSymbol) (s : State) :
    exec (.frameEnd symbols) s = .next (endDelimiter (s.setPort (receiveSymbols symbols s.port))) := rfl

/-- A frame that a start delimiter cuts short ends as an error symbol and an end delimiter would end it (R154). -/
theorem cutShort_eq_endDelimiter {s : State} (symbols : List LineSymbol) :
    cutShort (s.setPort (receiveSymbols symbols s.port)) =
      endDelimiter (s.setPort (receiveSymbols (symbols ++ [.error]) s.port)) := by
  cases hr : s.port.receiver with
  | waiting =>
    rw [receiveSymbols_of_waiting _ hr, receiveSymbols_of_waiting _ hr]
    simp only [cutShort, endDelimiter, setPort_port, hr]
  | discarding =>
    rw [receiveSymbols_of_discarding _ hr, receiveSymbols_of_discarding _ hr]
    simp only [cutShort, endDelimiter, setPort_port, hr]
  | receiving i =>
    rw [receiveSymbols_of_receiving _ hr, receiveSymbols_of_receiving _ hr]
    simp only [cutShort, endDelimiter, setPort_port, putStore_receiver, hr, markLineError, getStore_putStore,
      List.foldl_append, List.foldl_cons, List.foldl_nil, stopReceiving_putStore, putStore_putStore]
    rfl

theorem freeStore_A {p : RingPort} (h : p.storeA = .free) : freeStore p = some .A := if_pos h

theorem freeStore_B {p : RingPort} (hA : p.storeA ≠ .free) (hB : p.storeB = .free) : freeStore p = some .B := by
  rw [freeStore, if_neg hA, if_pos hB]

theorem freeStore_none {p : RingPort} (hA : p.storeA ≠ .free) (hB : p.storeB ≠ .free) : freeStore p = none := by
  rw [freeStore, if_neg hA, if_neg hB]

/-- Settles O16: the first FREE store while WAITING; the frame cut short first otherwise. -/
theorem startDelimiterTakesAStore : Obligations.StartDelimiterTakesAStore := by
  unfold Obligations.StartDelimiterTakesAStore
  refine ⟨fun symbols s hw => ?_, fun symbols s hw => ?_⟩
  · rw [exec_startDelimiter_of_waiting symbols hw]
    unfold beginFrame
    refine ⟨fun hA => ?_, fun hA hB => ?_, fun hA hB => ?_⟩
    · rw [freeStore_A hA]
      rfl
    · rw [freeStore_B hA hB]
      rfl
    · rw [freeStore_none hA hB]
      rfl
  · have hcut := cutShort_eq_endDelimiter (s := s) symbols
    have hwait := cutShort_receiver (s.setPort (receiveSymbols symbols s.port))
    rw [hcut] at hwait
    refine ⟨_, exec_frameEnd _ s, hwait, ?_⟩
    rw [exec_startDelimiter_of_waiting [] hwait, ← hcut]
    rfl

/-- Settles O19: the timer and the transmitter by the receiver and the stores, RING OUT by the store SENDING. -/
theorem timeOutAndTransmission : Obligations.TimeOutAndTransmission := by
  unfold Obligations.TimeOutAndTransmission
  refine ⟨fun symbols s => ?_, fun s => ?_, fun s hA hB => ⟨?_, ringOut_idle hA hB⟩, fun s bytes hs => ?_⟩
  · have hexec : exec (.receptionTimeout symbols) s =
        .next (expireReception (s.setPort (receiveSymbols symbols s.port))) := rfl
    rw [hexec]
    refine ⟨fun hr => ?_, fun hr => ?_, fun hr => ?_, fun hr => ?_⟩
    · rw [receiveSymbols_of_receiving _ hr]
      simp only [expireReception, setPort_port, putStore_receiver, hr]
      rfl
    · rw [receiveSymbols_of_receiving _ hr]
      simp only [expireReception, setPort_port, putStore_receiver, hr]
      rfl
    · rw [receiveSymbols_of_discarding _ hr]
      simp only [expireReception, setPort_port, hr]
      rfl
    · rw [receiveSymbols_of_waiting _ hr, setPort_self]
      simp only [expireReception, hr]
  · have hstart : exec .transmitStart s = .next (startSending s) := rfl
    have hend : exec .transmitEnd s = .next (endSending s) := rfl
    rw [hstart, hend]
    refine ⟨fun bytes rest hA horder hB => ?_, fun bytes rest hB horder hA => ?_, fun hbusy => ?_, fun bytes hA hB => ?_,
      fun bytes hB hA => ?_⟩
    · have hfree : transmitterFree s.port = true := by
        rw [transmitterFree, hA, hB]
        rfl
      simp only [startSending, horder, hfree, if_true, getStore, hA, sendStore, putStore]
    · have hfree : transmitterFree s.port = true := by
        rw [transmitterFree, hA, hB]
        rfl
      simp only [startSending, horder, hfree, if_true, getStore, hB, sendStore, putStore]
    · unfold startSending
      split
      · rfl
      · rename_i horder
        have hfree : transmitterFree s.port = false := by
          rcases hbusy with hbusy | hbusy | hbusy <;> simp_all [transmitterFree]
        rw [hfree]
        rfl
    · rw [endSending, hA, sentStore_other hB]
      rfl
    · rw [endSending, hB, sentStore_other hA]
      rfl
  · show Host.Outcome.next (endSending s) = _
    simp only [endSending, sentStore_other hA, sentStore_other hB]
    rfl
  · rcases hs with hA | ⟨hA, hB⟩
    · exact ringOut_A hA
    · exact ringOut_B hA hB

/-! ## Bad frames (R156, R167) -/

/-- Two bytes are a 16-bit value exactly when they are its bytes. -/
theorem half_eq_iff (x y : Byte) (c : Half) : half x y = c ↔ [x, y] = halfBytes c := by
  constructor
  · rintro rfl
    have hx := x.isLt
    have hy := y.isLt
    simp only [halfBytes, List.cons.injEq, and_true]
    constructor <;> apply BitVec.eq_of_toNat_eq <;>
      simp only [half, num16, BitVec.toNat_ofNat, BitVec.extractLsb'_toNat, Nat.shiftRight_eq_div_pow] <;> omega
  · intro hc
    simp only [halfBytes, List.cons.injEq, and_true] at hc
    rw [hc.1, hc.2, half_bytes]

/-- The length checks of R156 over the bytes kept: 16 at least, and the length field in agreement. -/
def LengthOk (bytes : List Byte) : Prop :=
  16 ≤ bytes.length ∧ num16 (bytes.getD 4 0) (bytes.getD 5 0) + 16 = bytes.length

/-- The CRC check of R156 over the bytes kept. -/
def CrcOk (bytes : List Byte) : Prop :=
  bytes.drop (bytes.length - 2) = halfBytes (crc16 (bytes.take (bytes.length - 2)))

/-- A frame of fewer than 14 bytes, or one whose rest does not agree with its length field, is bad by its length. -/
theorem checkBytes_of_bad_length {bytes : List Byte} (h : ¬LengthOk bytes) : checkBytes bytes = .bad .length := by
  unfold checkBytes
  split
  · rename_i k d t1 t0 l1 l0 a1 a0 b1 b0 c1 c0 d1 d0 rest
    rw [if_neg]
    intro hlen
    refine h ⟨?_, ?_⟩
    · simp only [List.length_cons]
      omega
    · simp only [List.getD_eq_getElem?_getD, List.getElem?_cons_succ, List.getElem?_cons_zero, Option.getD_some,
        List.length_cons]
      omega
  · rfl

theorem checkBytes_of_bad_crc {bytes : List Byte} (h : LengthOk bytes) (hc : ¬CrcOk bytes) :
    checkBytes bytes = .bad .crc := by
  obtain ⟨hlong, hfield⟩ := h
  unfold checkBytes
  split
  · rename_i k d t1 t0 l1 l0 a1 a0 b1 b0 c1 c0 d1 d0 rest
    simp only [List.getD_eq_getElem?_getD, List.getElem?_cons_succ, List.getElem?_cons_zero, Option.getD_some,
      List.length_cons] at hfield
    have hrest : rest.length = num16 l1 l0 + 2 := by omega
    rw [if_pos hrest, if_neg]
    intro hcrc
    refine hc ?_
    obtain ⟨x, y, hxy⟩ : ∃ x y, rest.drop (num16 l1 l0) = [x, y] := List.length_eq_two.mp (by simp [hrest])
    have hsplit : (k :: d :: t1 :: t0 :: l1 :: l0 :: a1 :: a0 :: b1 :: b0 :: c1 :: c0 :: d1 :: d0 :: rest).length - 2 =
        num16 l1 l0 + 14 := by
      simp only [List.length_cons]
      omega
    rw [CrcOk, hsplit]
    simp only [List.drop_succ_cons, hxy]
    rw [hxy, Nat.add_comm 14] at hcrc
    exact (half_eq_iff x y _).mp hcrc.symm
  · rename_i hshort
    refine (hshort bytes[0] bytes[1] bytes[2] bytes[3] bytes[4] bytes[5] bytes[6] bytes[7] bytes[8] bytes[9] bytes[10]
      bytes[11] bytes[12] bytes[13] (bytes.drop 14) ?_).elim
    simp only [List.getElem_cons_drop, List.drop_zero]

/-- The verdict on a frame that fails some check, in the order of R156. -/
theorem checkFrame_bad {bytes : List Byte} {long bad : Bool}
    (h : bad = true ∨ (long = true ∨ ¬LengthOk bytes) ∨ ¬CrcOk bytes) {r : AbandonReason}
    (hr : (bad = true → r = .line) ∧ (bad = false → (long = true ∨ ¬LengthOk bytes) → r = .length) ∧
      (bad = false → ¬(long = true ∨ ¬LengthOk bytes) → r = .crc)) : checkFrame bytes long bad = .bad r := by
  obtain ⟨hline, hlength, hcrc⟩ := hr
  cases bad with
  | true => rw [checkFrame_line, hline rfl]
  | false =>
    cases long with
    | true => rw [checkFrame_long, hlength rfl (.inl rfl)]
    | false =>
      rw [checkFrame_plain]
      by_cases hl : LengthOk bytes
      · rw [checkBytes_of_bad_crc hl (by simpa [hl] using h), hcrc rfl (by simpa using hl)]
      · rw [checkBytes_of_bad_length hl, hlength rfl (.inr hl)]

/-- FRAME_END while a store is being filled from empty: the frame is judged by the bytes kept. -/
theorem exec_frameEnd_filling {i : StoreId} {s : State} (symbols : List LineSymbol) (hr : s.port.receiver = .receiving i)
    (hg : getStore s.port i = .filling [] false false) :
    exec (.frameEnd symbols) s =
      .next (finishFrame i (s.setPort (stopReceiving (putStore i
        (.filling ((symbolBytes symbols).take 2048) (decide (2048 < (symbolBytes symbols).length))
          (decide (LineSymbol.error ∈ symbols))) s.port)))) := by
  rw [exec_frameEnd, receiveSymbols_filling symbols hr hg]
  simp only [endDelimiter, setPort_port, putStore_receiver, hr]
  rfl

theorem finishFrame_bad {i : StoreId} {s : State} {bytes : List Byte} {long bad : Bool} {r : AbandonReason}
    (hc : checkFrame bytes long bad = .bad r) :
    finishFrame i (s.setPort (stopReceiving (putStore i (.filling bytes long bad) s.port))) =
      (raise .frameAbandoned s).setPort
        { putStore i (.held (frameBytes (abandonedFrame s.port.number r bytes))) s.port with
          receiver := .waiting, rxTimer := none, heldOrder := s.port.heldOrder ++ [i] } := by
  simp only [finishFrame, setPort_port, getStore_stopReceiving, getStore_putStore, hc]
  cases i <;> rfl

/-- Settles O17: the three reasons in the order of R156. -/
theorem badFrameIsAbandoned : Obligations.BadFrameIsAbandoned := by
  unfold Obligations.BadFrameIsAbandoned
  intro symbols s
  refine ⟨fun hw => ?_, fun hd => ?_, fun i hr hg => ?_⟩
  · rw [exec_frameEnd, receiveSymbols_of_waiting _ hw, setPort_self]
    simp only [endDelimiter, hw]
  · rw [exec_frameEnd, receiveSymbols_of_discarding _ hd, setPort_self]
    simp only [endDelimiter, hd]
    rfl
  · intro kept badLength badCrc hbad
    have hlength : (decide (2048 < (symbolBytes symbols).length) = true ∨ ¬LengthOk kept) ↔ badLength := by
      simp only [badLength, LengthOk, decide_eq_true_eq]
      omega
    obtain ⟨r, hcode, hreason⟩ : ∃ r, reasonCode r =
        (if LineSymbol.error ∈ symbols then 0x03#8 else if badLength then 0x02#8 else 0x01#8) ∧
        (decide (LineSymbol.error ∈ symbols) = true → r = .line) ∧
        (decide (LineSymbol.error ∈ symbols) = false → badLength → r = .length) ∧
        (decide (LineSymbol.error ∈ symbols) = false → ¬badLength → r = .crc) := by
      by_cases hline : LineSymbol.error ∈ symbols
      · exact ⟨.line, by rw [if_pos hline]; rfl, by simp [hline]⟩
      · by_cases hlen : badLength
        · exact ⟨.length, by rw [if_neg hline, if_pos hlen]; rfl, by simp [hline, hlen]⟩
        · exact ⟨.crc, by rw [if_neg hline, if_neg hlen]; rfl, by simp [hline, hlen]⟩
    simp only [← hlength] at hreason
    rw [exec_frameEnd_filling symbols hr hg, finishFrame_bad (checkFrame_bad ?_ hreason), ← hcode]
    · rfl
    · rcases hbad with hbad | hbad | hbad
      · exact .inl (decide_eq_true hbad)
      · exact .inr (.inl (hlength.mpr hbad))
      · exact .inr (.inr hbad)

/-! ## Good frames (R156, R159, R160, R168) -/

/-- FRAME_END of the bytes of a frame acts on the frame. -/
theorem exec_frameEnd_good {f : Frame} {i : StoreId} {symbols : List LineSymbol} {s : State}
    (hlen : f.body.length ≤ 2032) (hr : s.port.receiver = .receiving i)
    (hg : getStore s.port i = .filling [] false false) (hline : LineSymbol.error ∉ symbols)
    (hbytes : symbolBytes symbols = frameBytes f) :
    exec (.frameEnd symbols) s =
      .next (actGoodFrame i f
        (s.setPort (stopReceiving (putStore i (.filling (frameBytes f) false false) s.port)))) := by
  have hlong : ¬2048 < (frameBytes f).length := by rw [frameBytes_length]; omega
  have htake : (frameBytes f).take 2048 = frameBytes f := List.take_of_length_le (by omega)
  rw [exec_frameEnd_filling symbols hr hg, hbytes, htake, decide_eq_false hlong, decide_eq_false hline]
  simp only [finishFrame, setPort_port, getStore_stopReceiving, getStore_putStore, checkFrame_plain,
    checkBytes_frameBytes f hlen]

/-- The body of every COMMAND row names the row's command. -/
theorem decode_of_commandOf : ∀ i, CommandRoundTrip.Statement i
  | .powerOn => CommandRoundTrip.powerOn
  | .encoderStep a b z => CommandRoundTrip.encoderStep a b z
  | .indexLost => CommandRoundTrip.indexLost
  | .captureExpiry => CommandRoundTrip.captureExpiry
  | .loomInput0Edge level => CommandRoundTrip.loomInput0Edge level
  | .loomInputEdge n level => CommandRoundTrip.loomInputEdge n level
  | .startDelimiter symbols => CommandRoundTrip.startDelimiter symbols
  | .frameEnd symbols => CommandRoundTrip.frameEnd symbols
  | .receptionTimeout symbols => CommandRoundTrip.receptionTimeout symbols
  | .transmitStart => CommandRoundTrip.transmitStart
  | .transmitEnd => CommandRoundTrip.transmitEnd
  | .designFrame h body => CommandRoundTrip.designFrame h body
  | .enumerate h body => CommandRoundTrip.enumerate h body
  | .configureDesignWidth h index value pad => CommandRoundTrip.configureDesignWidth h index value pad
  | .configureSelectAngle h index value pad => CommandRoundTrip.configureSelectAngle h index value pad
  | .configureSelectLatency h index value pad => CommandRoundTrip.configureSelectLatency h index value pad
  | .configureReverseMargin h index value pad => CommandRoundTrip.configureReverseMargin h index value pad
  | .configureFeederDistance h index value pad => CommandRoundTrip.configureFeederDistance h index value pad
  | .configureArrivalOpenDistance h index value pad => CommandRoundTrip.configureArrivalOpenDistance h index value pad
  | .configureArrivalCloseDistance h index value pad => CommandRoundTrip.configureArrivalCloseDistance h index value pad
  | .configureWeftOwner h index value pad => CommandRoundTrip.configureWeftOwner h index value pad
  | .configureArrivalEdge h index value pad => CommandRoundTrip.configureArrivalEdge h index value pad
  | .configureInputEnable h index value pad => CommandRoundTrip.configureInputEnable h index value pad
  | .configureInputEdge h index value pad => CommandRoundTrip.configureInputEdge h index value pad
  | .configureActionLevel h index value pad => CommandRoundTrip.configureActionLevel h index value pad
  | .configureRestTime h index value pad => CommandRoundTrip.configureRestTime h index value pad
  | .loadOpen h table first count pad => CommandRoundTrip.loadOpen h table first count pad
  | .loadData h sequence count entries => CommandRoundTrip.loadData h sequence count entries
  | .loadClose h pad => CommandRoundTrip.loadClose h pad
  | .loadAbort h pad => CommandRoundTrip.loadAbort h pad
  | .run h pad => CommandRoundTrip.run h pad
  | .resume h pad => CommandRoundTrip.resume h pad
  | .idle h pad => CommandRoundTrip.idle h pad
  | .discardQueue h expected pad => CommandRoundTrip.discardQueue h expected pad
  | .clearHistory h pad => CommandRoundTrip.clearHistory h pad
  | .clearEvents h kinds pad => CommandRoundTrip.clearEvents h kinds pad
  | .clearFaultMap h pad => CommandRoundTrip.clearFaultMap h pad
  | .releaseModule h chain module pad => CommandRoundTrip.releaseModule h chain module pad
  | .queryStatus h space pad => CommandRoundTrip.queryStatus h space pad
  | .queryEvents h space pad => CommandRoundTrip.queryEvents h space pad
  | .queryFaultMap h space pad => CommandRoundTrip.queryFaultMap h space pad
  | .queryModules h space pad => CommandRoundTrip.queryModules h space pad
  | .queryTable h space table first count pad => CommandRoundTrip.queryTable h space table first count pad
  | .queryPicks h space pad => CommandRoundTrip.queryPicks h space pad
  | .reset h pad => CommandRoundTrip.reset h pad
  | .sizingFlushEnd => CommandRoundTrip.sizingFlushEnd
  | .markerPassEnd chain p => CommandRoundTrip.markerPassEnd chain p
  | .expansionRecordDone => CommandRoundTrip.expansionRecordDone
  | .shiftEnd status => CommandRoundTrip.shiftEnd status
  | .restTimerExpiry chain module => CommandRoundTrip.restTimerExpiry chain module

theorem body_fits_of_commandOf {i : Instr} {h : Header} {c : Command} {pad : List Byte} (hw : wellFormed i = true)
    (hi : commandOf i = some (h, c, pad)) : (commandBytes c ++ pad).length ≤ 2032 := by
  cases i <;> cases hi
  case clearEvents kinds =>
    simp only [wellFormed, Bool.and_eq_true] at hw
    exact of_decide_eq_true hw.2
  all_goals exact of_decide_eq_true hw

/-- A ring row is the acting of its frame, whose body fits a frame. -/
theorem exec_of_frameOf {i : Instr} {f : Frame} (hw : wellFormed i = true) (hf : frameOf i = some f) :
    f.body.length ≤ 2032 ∧ ∀ s, exec i s = .next (keepActed (actFrame f s)) := by
  have hcommand : ∀ {p : Header × Command × List Byte}, commandOf i = some p → commandFrame p.1 p.2.1 p.2.2 = f →
      f.body.length ≤ 2032 ∧ ∀ s, exec i s = .next (keepActed (actFrame f s)) := by
    rintro ⟨h, c, pad⟩ hi rfl
    refine ⟨body_fits_of_commandOf hw hi, fun s => ?_⟩
    have hact : actFrame (commandFrame h c pad) s = actCommand (commandFrame h c pad) (some c) s := by
      have hdecode : decodeCommand (commandFrame h c pad).body = some c := decode_of_commandOf i h c pad hi hw
      have hdesign : (commandFrame h c pad).kind ≠ kindDesign := by
        show kindCommand ≠ kindDesign
        decide
      rw [actFrame, if_neg hdesign, if_pos (show (commandFrame h c pad).kind = kindCommand from rfl), hdecode]
    rw [exec_of_commandOf hi, hact]
    rfl
  unfold frameOf at hf
  split at hf
  · obtain rfl := Option.some.inj hf
    exact ⟨of_decide_eq_true hw, fun s => rfl⟩
  · obtain rfl := Option.some.inj hf
    exact ⟨of_decide_eq_true hw, fun s => rfl⟩
  · obtain ⟨p, hi, hp⟩ := Option.map_eq_some_iff.mp hf
    exact hcommand hi hp

theorem halfBytes_eq (x : Half) : halfBytes x = [BitVec.ofNat 8 (x.toNat / 256), BitVec.ofNat 8 (x.toNat % 256)] := by
  have h := x.isLt
  simp only [halfBytes, List.cons.injEq, and_true]
  constructor <;> apply BitVec.eq_of_toNat_eq
  · simp only [BitVec.toNat_ofNat, BitVec.extractLsb'_toNat, Nat.shiftRight_eq_div_pow]
  · simp only [BitVec.toNat_ofNat, BitVec.extractLsb'_toNat, Nat.shiftRight_eq_div_pow]
    omega

theorem crcByte_eq_foldl (r : Half) (b : Byte) :
    crcByte r b = ((List.range 8).map fun i => b.getLsbD (7 - i)).foldl crcBit r := rfl

theorem crc16_eq_foldl (bytes : List Byte) (r : Half) :
    bytes.foldl crcByte r =
      (bytes.flatMap fun b => (List.range 8).map fun i => b.getLsbD (7 - i)).foldl crcBit r := by
  induction bytes generalizing r with
  | nil => rfl
  | cons b bs ih => rw [List.foldl_cons, List.flatMap_cons, List.foldl_append, ih, crcByte_eq_foldl]

/-- Settles O18: the layout by the bytes of a 16-bit value, the CRC bit by bit, and a row as the acting of its frame. -/
theorem frameEndActsAsItsRow : Obligations.FrameEndActsAsItsRow := by
  unfold Obligations.FrameEndActsAsItsRow
  refine ⟨fun f hlen => ?_, fun bytes => crc16_eq_foldl bytes _, fun i f store symbols s hw hf hr hg hline hbytes => ?_⟩
  · have hsize : (BitVec.ofNat 16 f.body.length).toNat = f.body.length := by
      rw [BitVec.toNat_ofNat]
      omega
    simp only [frameBytes, headerBytes, halfBytes_eq, hsize]
  · obtain ⟨hlen, hexec⟩ := exec_of_frameOf hw hf
    exact ⟨_, _, hexec _, rfl, exec_frameEnd_good hlen hr hg hline hbytes⟩

/-! ## Good frames that change nothing (R160, R182, R183, R188) -/

/-- A good frame on which the node acts without a change of state is held as the action left it. -/
theorem exec_frameEnd_unchanged {f g : Frame} {i : StoreId} {symbols : List LineSymbol} {s : State}
    (hlen : f.body.length ≤ 2032) (hr : s.port.receiver = .receiving i)
    (hg : getStore s.port i = .filling [] false false) (hline : LineSymbol.error ∉ symbols)
    (hbytes : symbolBytes symbols = frameBytes f)
    (hact : ∀ u : State, u.port.number = s.port.number → u.control = s.control → u.store = s.store →
      actFrame f u = { frame := g, state := u }) :
    exec (.frameEnd symbols) s =
      .next (s.setPort
        { putStore i (.held (frameBytes g)) s.port with
          receiver := .waiting, rxTimer := none, heldOrder := s.port.heldOrder ++ [i], acted := some g }) := by
  rw [exec_frameEnd_good hlen hr hg hline hbytes]
  have hu := hact (s.setPort (stopReceiving (putStore i (.filling (frameBytes f) false false) s.port)))
    (by simp) rfl rfl
  rw [actGoodFrame, hu]
  cases i <;> rfl

theorem slotWord_congr (o : OutcomeCode) (cut : Bool) {u s : State} (hcontrol : u.control = s.control)
    (hstore : u.store = s.store) : slotWord o cut u = slotWord o cut s := by
  simp only [slotWord, attention, rewindActive, queueFree, hcontrol, hstore]

theorem actFrame_command {f : Frame} (hk : f.kind = 0x02#8) (u : State) :
    actFrame f u = actCommand f (decodeCommand f.body) u := by
  rw [actFrame, if_neg (by rw [hk]; decide), if_pos (show f.kind = kindCommand from hk)]

/-- A COMMAND that is refused without a change of state, addressed or broadcast, by the outcome and the reply. -/
theorem exec_frameEnd_refused {f : Frame} {i : StoreId} {symbols : List LineSymbol} {s : State} {n : Fin 4}
    {c : Option Command} {o : OutcomeCode} {reply : List Byte} (hlen : f.body.length ≤ 2032)
    (hr : s.port.receiver = .receiving i) (hg : getStore s.port i = .filling [] false false)
    (hline : LineSymbol.error ∉ symbols) (hbytes : symbolBytes symbols = frameBytes f) (hk : f.kind = 0x02#8)
    (hdecode : decodeCommand f.body = c) (hn : s.port.number = some n)
    (hfit : reply.length ≤ replySpace c f.body.length) (haddressed : ∀ u : State, u.control = s.control →
      executeCommand false c u = { state := u, outcome := o, reply := reply })
    (hbroadcast : ∀ u : State, u.control = s.control →
      ∃ rest, executeCommand true c u = { state := u, outcome := o, reply := rest }) :
    let held := fun g : Frame =>
      s.setPort
        { putStore i (.held (frameBytes g)) s.port with
          receiver := .waiting, rxTimer := none, heldOrder := s.port.heldOrder ++ [i], acted := some g }
    (f.dest.toNat = n.val → exec (.frameEnd symbols) s =
        .next (held { f with kind := 0x03#8, body := reply, slots := f.slots.set n (slotWord o false s) })) ∧
      (f.dest = 0xFF#8 → exec (.frameEnd symbols) s =
        .next (held { f with slots := f.slots.set n (slotWord o false s) })) := by
  refine ⟨fun hd => exec_frameEnd_unchanged hlen hr hg hline hbytes fun u hnum hcontrol hstore => ?_,
    fun hb => exec_frameEnd_unchanged hlen hr hg hline hbytes fun u hnum hcontrol hstore => ?_⟩
  · rw [actFrame_command hk, hdecode, actCommand_addressed (hnum.trans hn) hd, haddressed u hcontrol]
    have hnot : ¬replySpace c f.body.length < reply.length := by omega
    simp only [respond, stampSlot, decide_eq_false hnot, List.take_of_length_le hfit, slotWord_congr o false hcontrol hstore]
    rfl
  · obtain ⟨rest, hrest⟩ := hbroadcast u hcontrol
    rw [actFrame_command hk, hdecode, actCommand_broadcast (hnum.trans hn) hb, hrest]
    simp only [stampBroadcast, stampSlot, slotWord_congr o false hcontrol hstore]

theorem parameterOfCode_none {code : Byte} (h : code = 0x00#8 ∨ 0x0D < code.toNat) : parameterOfCode code = none := by
  have hcode : code.toNat = 0 ∨ 0x0D < code.toNat := h.imp_left fun h => by rw [h]; rfl
  unfold parameterOfCode
  split
  case h_14 => rfl
  all_goals omega

theorem decodeQuery_unknown {subject s1 s0 : Byte} {pad : List Byte} (h : subject = 0x00#8 ∨ 0x06 < subject.toNat) :
    decodeCommand ([0x0E#8, subject, s1, s0] ++ pad) = some (.queryUnknown subject (half s1 s0)) := by
  have hcode : subject.toNat = 0 ∨ 0x06 < subject.toNat := h.imp_left fun h => by rw [h]; rfl
  show decodeQuery (subject :: s1 :: s0 :: pad) = _
  unfold decodeQuery
  dsimp only
  split
  case h_7 => rfl
  all_goals omega

theorem decodeConfigure_unknown {code index v1 v0 : Byte} {pad : List Byte} (h : code = 0x00#8 ∨ 0x0D < code.toNat) :
    decodeCommand ([0x01#8, code, index, v1, v0] ++ pad) = some (.configureUnknown code index) := by
  show decodeConfigure (code :: index :: v1 :: v0 :: pad) = _
  simp only [decodeConfigure, parameterOfCode_none h]

theorem executeCommand_configureUnknown (b : Bool) (code index : Byte) (u : State) :
    executeCommand b (some (.configureUnknown code index)) u =
      { state := u, outcome := if u.control.node = .init then .notReady else .range,
        reply := if u.control.node = .init then [] else [code, index] } := by
  have hfirst : ¬(b = true ∧ (isQuery (.configureUnknown code index) || isLoad (.configureUnknown code index)) = true) :=
    fun hc => Bool.false_ne_true hc.2
  unfold executeCommand
  dsimp only
  rw [if_neg hfirst]
  by_cases hinit : u.control.node = .init
  · have hsecond : u.control.node = .init ∧
        (isQuery (.configureUnknown code index) || isReset (.configureUnknown code index)) = false :=
      ⟨hinit, rfl⟩
    rw [if_pos hsecond, if_pos hinit, if_pos hinit]
    rfl
  · rw [if_neg fun hc => hinit hc.1, if_neg hinit, if_neg hinit]
    rfl

/-- Settles O22: frames forwarded, and COMMANDs refused by what their body names. -/
theorem otherGoodFramesChangeNothing : Obligations.OtherGoodFramesChangeNothing := by
  unfold Obligations.OtherGoodFramesChangeNothing
  intro f i symbols s hlen hr hg hline hbytes
  refine ⟨fun h1 h2 h4 => ?_, fun n hk hnone hn => ?_, fun hk hs => ?_, fun n code index v1 v0 pad hk hbody hcode hn => ?_,
    fun n subject s1 s0 pad hk hbody hsubject hn => ?_⟩
  · refine exec_frameEnd_unchanged hlen hr hg hline hbytes fun u _ _ _ => ?_
    rw [actFrame, if_neg (show ¬f.kind = kindDesign from h1), if_neg (show ¬f.kind = kindCommand from h2),
      if_neg (show ¬f.kind = kindEnumerate from h4)]
    rfl
  · exact exec_frameEnd_refused hlen hr hg hline hbytes hk hnone hn (Nat.zero_le _) (fun u _ => rfl)
      fun u _ => ⟨[], rfl⟩
  · refine exec_frameEnd_unchanged hlen hr hg hline hbytes fun u hnum _ _ => ?_
    rw [actFrame_command hk]
    rcases hs with hn | ⟨n, hn, hd, hb⟩
    · exact actCommand_unnumbered (hnum.trans hn)
    · exact actCommand_elsewhere (hnum.trans hn) hd hb
  · have hdecode : decodeCommand f.body = some (.configureUnknown code index) := by
      rw [hbody]
      exact decodeConfigure_unknown hcode
    have hexecute : ∀ b, ∀ u : State, u.control = s.control → executeCommand b (some (.configureUnknown code index)) u =
        { state := u, outcome := if s.control.node = .init then .notReady else .range,
          reply := if s.control.node = .init then [] else [code, index] } :=
      fun b u hu => hu ▸ executeCommand_configureUnknown b code index u
    have hfit : (if s.control.node = .init then [] else [code, index]).length ≤
        replySpace (some (.configureUnknown code index)) f.body.length := by
      have hlength : 5 ≤ f.body.length := by
        rw [hbody, List.length_append]
        exact Nat.le_add_right 5 _
      show _ ≤ f.body.length
      split
      · exact Nat.zero_le _
      · exact le_trans (by decide : 2 ≤ 5) hlength
    exact exec_frameEnd_refused hlen hr hg hline hbytes hk hdecode hn hfit (hexecute false) fun u hu =>
      ⟨_, hexecute true u hu⟩
  · have hdecode : decodeCommand f.body = some (.queryUnknown subject (half s1 s0)) := by
      rw [hbody]
      exact decodeQuery_unknown hsubject
    exact exec_frameEnd_refused hlen hr hg hline hbytes hk hdecode hn (Nat.zero_le _) (fun u _ => by
      simp [executeCommand, isQuery, performCommand, refuse]) fun u _ => ⟨[], by simp [executeCommand, isQuery, refuse]⟩

end Sys2Proof.Proofs.RingRows

/-! PROOFS. The layouts of tables and replies (R18, R58, R117, R134, R152, R168, R189): the entries of a load read back, and the
replies of the six queries. -/

namespace Sys2Proof.Proofs.Layouts

open Sys2Proof Sys2Proof.Machine Sys2Proof.Proofs.CommandRows Sys2Proof.Proofs.EventRaise Sys2Proof.Proofs.RunRows
  Sys2Proof.Proofs.LoadRows

/-! ## The entries of a load (R168, R185) -/

theorem byteOf_toNat_of_lt {n : Nat} (h : n < 256) : (byteOf n).toNat = n := by
  rw [byteOf_toNat, Nat.mod_eq_of_lt h]

theorem num16_be16_of_lt {n : Nat} (h : n < 65536) : num16 (byteOf (n / 256)) (byteOf n) = n := by
  rw [num16_byteOf, Nat.mod_eq_of_lt h]

theorem decodeCodes_fieldBytes (tail : List Byte) (xs : List CodeFields)
    (h : ∀ f ∈ xs, f.slot < 256 ∧ f.invert < 256 ∧ f.dx < 256 ∧ f.dy < 256) :
    decodeCodes xs.length ((xs.map fieldBytes).flatten ++ tail) = some xs := by
  induction xs with
  | nil => rfl
  | cons f xs ih =>
    obtain ⟨⟨hslot, hinvert, hdx, hdy⟩, hxs⟩ := List.forall_mem_cons.mp h
    simp only [List.length_cons, List.map_cons, List.flatten_cons, fieldBytes, List.cons_append, List.nil_append,
      decodeCodes, ih hxs, Option.map_some, byteOf_toNat_of_lt hslot, byteOf_toNat_of_lt hinvert,
      byteOf_toNat_of_lt hdx, byteOf_toNat_of_lt hdy]

theorem directionOfByte_byte {d : TieDirection} (h : d = .asc ∨ d = .desc) : directionOfByte (tieDirectionByte d) = d := by
  rcases h with rfl | rfl <;> rfl

theorem kindOfByte_byte {k : TieKind} (h : k = .figure ∨ k = .void ∨ k = .selvedge) : kindOfByte (tieKindByte k) = k := by
  rcases h with rfl | rfl | rfl <;> rfl

/-- A segment in range, written and read back. -/
theorem decodeSegments_cons {g : Segment} (h : segmentInRange g = true) (hs : g.kind ≠ .selvedge → g.selvedge = none)
    (n : Nat) (rest : List Byte) :
    decodeSegments (n + 1) (segmentBytes g ++ rest) = (decodeSegments n rest).map (g :: ·) := by
  obtain ⟨h0, hn1, hn2, hdir, hc0, he0, hkind, hend⟩ := (segmentInRange_iff g).mp h
  have hk : kindOfByte (tieKindByte g.kind) = g.kind := kindOfByte_byte (hkind.imp_right (Or.imp_right And.left))
  have hd := directionOfByte_byte hdir
  have hh0 := num16_be16_of_lt (show g.h0 < 65536 by omega)
  have hn := num16_be16_of_lt (show g.n < 65536 by omega)
  have hc := num16_be16_of_lt (show g.c0 < 65536 by omega)
  have he := byteOf_toNat_of_lt (show g.e0 < 256 by omega)
  obtain ⟨gh0, gn, gdir, gc0, ge0, gkind, gsel⟩ := g
  by_cases hsel : gkind = .selvedge
  · obtain ⟨slot, invert, hsome, hslot, hinvert⟩ : ∃ slot invert, gsel = some (slot, invert) ∧ slot ≤ 15 ∧ invert ≤ 1 := by
      rcases hkind with hkind | hkind | hkind
      · exact absurd (hkind.symm.trans hsel) (by decide)
      · exact absurd (hkind.symm.trans hsel) (by decide)
      · exact hkind.2
    subst hsel
    simp only at hh0 hn hc he hd hk
    simp only [segmentBytes, be16, hsome, List.cons_append, List.nil_append, decodeSegments, hh0, hn, hc, he, hd, hk,
      if_true, byteOf_toNat_of_lt (show slot < 256 by omega), byteOf_toNat_of_lt (show invert < 256 by omega)]
  · have hnone : gsel = none := hs hsel
    simp only at hh0 hn hc he hd hk
    simp only [segmentBytes, be16, hnone, List.cons_append, List.nil_append, decodeSegments, hh0, hn, hc, he, hd, hk,
      if_neg hsel]

theorem decodeSegments_segmentBytes (tail : List Byte) (xs : List Segment)
    (h : ∀ g ∈ xs, segmentInRange g = true ∧ (g.kind ≠ .selvedge → g.selvedge = none)) :
    decodeSegments xs.length ((xs.map segmentBytes).flatten ++ tail) = some xs := by
  induction xs with
  | nil => rfl
  | cons g xs ih =>
    obtain ⟨⟨hg, hsel⟩, hxs⟩ := List.forall_mem_cons.mp h
    rw [List.length_cons, List.map_cons, List.flatten_cons, List.append_assoc, decodeSegments_cons hg hsel, ih hxs]
    rfl

theorem packCells_length (cells : List Bool) : (packCells cells).length = (cells.length + 7) / 8 := by
  simp [packCells]

theorem cells_read_back (cells : List Bool) (tail : List Byte) :
    (List.range cells.length).map (cellBit (packCells cells ++ tail)) = cells := by
  refine List.ext_getElem (by simp) fun i h1 h2 => ?_
  rw [List.getElem_map, List.getElem_range, cellBit_packCells cells tail h2]

theorem decodeWeave_geometry (tail : List Byte) {g : Geometry} (h : geometryPasses g = true) :
    decodeWeave ([byteOf g.w, byteOf g.h, byteOf g.start] ++ be16 g.cells.length ++ packCells g.cells ++ tail) = some g := by
  simp only [geometryPasses, Bool.and_eq_true, decide_eq_true_eq, beq_iff_eq] at h
  obtain ⟨⟨⟨⟨⟨hw1, hw⟩, hh1⟩, hh⟩, hstart⟩, hcells⟩ := h
  have hcount : g.cells.length ≤ 1024 := hcells ▸ Nat.mul_le_mul hw hh
  have hfit : (g.cells.length + 7) / 8 ≤ (packCells g.cells ++ tail).length := by
    rw [List.length_append, packCells_length]
    omega
  simp only [be16, List.cons_append, List.nil_append, decodeWeave, num16_be16_of_lt (show g.cells.length < 65536 by omega),
    if_pos hfit, cells_read_back, byteOf_toNat_of_lt (show g.w < 256 by omega),
    byteOf_toNat_of_lt (show g.h < 256 by omega), byteOf_toNat_of_lt (show g.start < 256 by omega)]

theorem decodeFeeders_bytes (tail : List Byte) (xs : List Nat) (h : ∀ f ∈ xs, f < 256) :
    decodeFeeders xs.length (xs.map byteOf ++ tail) = some xs := by
  have hlen : (xs.map byteOf).length = xs.length := List.length_map _
  rw [decodeFeeders, if_pos (by rw [List.length_append, hlen]; omega), List.take_left' hlen, List.map_map]
  congr 1
  calc xs.map (BitVec.toNat ∘ byteOf) = xs.map id := List.map_congr_left fun f hf => byteOf_toNat_of_lt (h f hf)
    _ = xs := List.map_id xs

/-- Settles O60: table by table, entry by entry. -/
theorem loadEntriesDecode : Obligations.LoadEntriesDecode := by
  unfold Obligations.LoadEntriesDecode
  refine fun tail => ⟨fun xs h => ?_, fun xs h => ?_, fun g h => ?_, fun xs h => ?_⟩
  · rw [decodeEntries, decodeCodes_fieldBytes tail xs h]
    rfl
  · rw [decodeEntries, decodeSegments_segmentBytes tail xs h]
    rfl
  · rw [decodeEntries, decodeWeave_geometry tail h]
    rfl
  · rw [decodeEntries, decodeFeeders_bytes tail xs h]
    rfl

/-! ## The reply of QUERY STATUS (R189) -/

theorem statusLoad_eq (l : Option Load) :
    statusLoad l =
      [(statusLoad l).getD 0 0, (statusLoad l).getD 1 0, (statusLoad l).getD 2 0, (statusLoad l).getD 3 0,
        (statusLoad l).getD 4 0] := by
  cases l <;> rfl

/-- The 26 bytes of the reply, one after the other. -/
theorem statusReply_eq (s : State) :
    statusReply s =
      [byteOf (nodeCode s.control.node), statusFlags s, (statusLoad s.load).getD 0 0, (statusLoad s.load).getD 1 0,
        (statusLoad s.load).getD 2 0, (statusLoad s.load).getD 3 0, (statusLoad s.load).getD 4 0,
        byteOf (s.tracker.counter / 256), byteOf s.tracker.counter, directionCode s.tracker.direction,
        byteOf s.tracker.applied, byteOf s.tracker.target, byteOf (s.tracker.period.getD 4294967295 / 16777216),
        byteOf (s.tracker.period.getD 4294967295 / 65536), byteOf (s.tracker.period.getD 4294967295 / 256),
        byteOf (s.tracker.period.getD 4294967295), byteOf s.store.queue.length, byteOf s.store.history.length,
        byteOf s.store.rewind, byteOf s.store.overshoot, byteOf (s.store.woven / 16777216),
        byteOf (s.store.woven / 65536), byteOf (s.store.woven / 256), byteOf s.store.woven,
        byteOf (s.weft.outside / 256), byteOf s.weft.outside] := by
  conv_lhs => rw [statusReply, statusLoad_eq]
  simp only [be16, be32, List.cons_append, List.nil_append]

theorem two_bytes_toNat {n : Nat} (h : n < 65536) : (byteOf (n / 256)).toNat * 256 + (byteOf n).toNat = n := by
  simp only [byteOf_toNat]
  omega

theorem four_bytes_toNat {n : Nat} (h : n < 4294967296) :
    (((byteOf (n / 16777216)).toNat * 256 + (byteOf (n / 65536)).toNat) * 256 + (byteOf (n / 256)).toNat) * 256
      + (byteOf n).toNat = n := by
  simp only [byteOf_toNat]
  omega

/-- Five flags put into a byte, the first lowest, read back. -/
theorem five_flags (a b c d e : Bool) :
    let flags := byteOf (bitOf a + 2 * bitOf b + 4 * bitOf c + 8 * bitOf d + 16 * bitOf e)
    flags.getLsbD 0 = a ∧ flags.getLsbD 1 = b ∧ flags.getLsbD 2 = c ∧ flags.getLsbD 3 = d ∧ flags.getLsbD 4 = e ∧
      (flags.extractLsb' 5 3).toNat = 0 := by
  revert a b c d e
  decide

theorem period_lt {t : Tracker} (h : TrackerLaw t) : t.period.getD 4294967295 < 4294967296 := by
  obtain ⟨-, -, -, -, -, hp, -⟩ := h
  cases hperiod : t.period with
  | none => decide
  | some p =>
    obtain ⟨-, hle⟩ := hp p hperiod
    exact Nat.lt_of_le_of_lt hle (by decide)

/-! ## The reply of QUERY EVENTS (R152) -/

/-- Item `i` of part `k` of a list put together from parts of one length. -/
theorem getD_flatten_of_length {α : Type} {n : Nat} (d : α) {i : Nat} (hi : i < n) :
    ∀ (ls : List (List α)) (k : Nat), (∀ l ∈ ls, l.length = n) →
      ls.flatten.getD (n * k + i) d = (ls.getD k []).getD i d
  | [], k, _ => rfl
  | l :: ls, 0, h => by
    rw [List.flatten_cons, Nat.mul_zero, Nat.zero_add, List.getD_append _ _ _ _ (by rw [h l List.mem_cons_self]; exact hi)]
    rfl
  | l :: ls, k + 1, h => by
    have hl : l.length = n := h l List.mem_cons_self
    rw [List.flatten_cons, List.getD_append_right _ _ _ _ (by rw [hl, Nat.mul_succ]; omega), hl,
      show n * (k + 1) + i - n = n * k + i by rw [Nat.mul_succ]; omega,
      getD_flatten_of_length d hi ls k fun l' hl' => h l' (List.mem_cons_of_mem _ hl')]
    rfl

theorem toList_eq_map_finRange {α : Type} {n : Nat} (v : Vector α n) : v.toList = (List.finRange n).map fun k => v[k] :=
  List.ext_getElem (by simp) fun i h1 h2 => by simp

theorem eventsReply_eq (s : State) :
    eventsReply s = ((List.finRange 26).map fun k => eventBytes k s.control.events[k]).flatten := by
  rw [eventsReply, Vector.toList_ofFn, List.ofFn_eq_map]

theorem eventsReply_getD (s : State) (k : Fin 26) {i : Nat} (hi : i < 4) :
    (eventsReply s).getD (4 * k.val + i) 0 = (eventBytes k s.control.events[k]).getD i 0 := by
  rw [eventsReply_eq, getD_flatten_of_length 0 hi _ _ fun l hl => by
    obtain ⟨j, -, rfl⟩ := List.mem_map.mp hl
    rfl]
  congr 1
  rw [List.getD_eq_getElem?_getD, List.getElem?_map, List.getElem?_eq_getElem (by simp)]
  simp

theorem eventsReply_length (s : State) : (eventsReply s).length = 104 := by
  have hone : (List.length ∘ fun k : Fin 26 => eventBytes k s.control.events[k]) = fun _ => 4 := rfl
  rw [eventsReply_eq, List.length_flatten, List.map_map, hone, List.map_const', List.sum_replicate, List.length_finRange]
  rfl

/-- Two flags put into a byte, the first lower, read back. -/
theorem two_flags (a b : Bool) :
    (byteOf (bitOf a + 2 * bitOf b)).getLsbD 0 = a ∧ (byteOf (bitOf a + 2 * bitOf b)).getLsbD 1 = b ∧
      ((byteOf (bitOf a + 2 * bitOf b)).extractLsb' 2 6).toNat = 0 := by
  revert a b
  decide

/-! ## The replies of the other queries (R18, R58, R117, R134) -/

theorem rangeBytes_ofFn {n : Nat} (i k : Nat) (f : Fin n → List Byte) :
    rangeBytes i k (Vector.ofFn f) = (((List.finRange n).drop i).take k).flatMap f := by
  rw [rangeBytes, Vector.toList_ofFn, List.ofFn_eq_map, List.flatMap_def, ← List.map_drop, ← List.map_take]

theorem modulesReply_eq (s : State) :
    modulesReply s =
      ((List.finRange 6).flatMap fun c => [byteOf (moduleCount s.selector.chains[c])]) ++ be16 (installed s) ++
        (List.finRange 6).flatMap fun c => s.health.modules[c].flatMap moduleBytes := by
  rw [modulesReply, toList_eq_map_finRange s.selector.chains, toList_eq_map_finRange s.health.modules, List.map_map,
    ← List.flatMap_def, ← List.flatMap_def, List.flatMap_assoc, List.map_eq_flatMap]
  rfl

theorem packCells_getD (cells : List Bool) {i : Nat} (h : i < 8 * ((cells.length + 7) / 8)) :
    ((packCells cells).getD (i / 8) 0).getLsbD (7 - i % 8) = cells.getD i false := by
  have hbyte : (packCells cells).getD (i / 8) 0 = cellByte cells (i / 8) := by
    rw [packCells, List.getD_eq_getElem?_getD, List.getElem?_map, List.getElem?_range (by omega)]
    rfl
  rw [hbyte, cellByte_bit cells (i / 8) ⟨i % 8, Nat.mod_lt _ (by decide)⟩]
  congr 1
  exact Nat.div_add_mod i 8

theorem inputAny_iff (s : State) : inputAny s = true ↔ ∃ n : Fin 7, s.weft.inputFlags[n] = true := by
  simp only [inputAny, List.any_eq_true, Vector.mem_toList_iff, Vector.mem_iff_getElem, id]
  constructor
  · rintro ⟨x, ⟨n, hn, rfl⟩, hx⟩
    exact ⟨⟨n, hn⟩, hx⟩
  · rintro ⟨n, hn⟩
    exact ⟨_, ⟨n.val, n.isLt, rfl⟩, hn⟩

theorem attention_iff (s : State) :
    attention s = true ↔
      ∃ k : Fin 26, s.control.events[k].flag = true ∧
        (s.control.events[k].level = .notify ∨ s.control.events[k].level = .stop) := by
  have hlevel : ∀ l : Level, l ≠ .record ↔ l = .notify ∨ l = .stop := by
    intro l
    cases l <;> decide
  simp only [attention, exists_event_iff, callsAttention_iff, hlevel]

/-- Settles O41: the summary bits are existence over the records; each reply is its list of bytes, read at an offset or
entry by entry. -/
theorem queryLayouts : Obligations.QueryLayouts := by
  unfold Obligations.QueryLayouts
  refine fun s => ⟨⟨attention_iff s, stopHold_iff s, inputAny_iff s⟩, fun htracker hstore hqueue houtside => ?_,
    ⟨eventsReply_length s, fun k hk => ?_⟩, ?_⟩
  · have hperiod := period_lt htracker
    obtain ⟨hcounter, -, -, -, -, -, -, htarget, happlied, -⟩ := htracker
    obtain ⟨hhistory, hrewind, -, hovershoot, hwoven⟩ := hstore
    simp only [statusReply_eq, List.getD_cons_succ, List.getD_cons_zero]
    refine ⟨rfl, byteOf_toNat_of_lt (by cases s.control.node <;> decide), five_flags _ _ _ _ _, fun hload => ?_,
      fun ld hload => ?_, two_bytes_toNat (by omega), ?_, byteOf_toNat_of_lt (by omega), byteOf_toNat_of_lt (by omega),
      four_bytes_toNat hperiod, byteOf_toNat_of_lt (by omega), byteOf_toNat_of_lt (by omega),
      byteOf_toNat_of_lt (by omega), byteOf_toNat_of_lt (by omega), four_bytes_toNat hwoven, two_bytes_toNat (by omega)⟩
    · rw [hload]
      exact ⟨rfl, rfl, rfl, rfl, rfl⟩
    · rw [hload]
      exact ⟨byteOf_toNat_of_lt (by cases ld.table <;> decide), byteOf_toNat _, byteOf_toNat _, byteOf_toNat _,
        byteOf_toNat _⟩
    · cases s.tracker.direction <;> rfl
  · obtain ⟨hflag, hfixed, hrest⟩ := two_flags s.control.events[k].flag (levelFixed k)
    simp only [eventsReply_getD s k (show 0 < 4 by decide), eventsReply_getD s k (show 1 < 4 by decide),
      eventsReply_getD s k (show 2 < 4 by decide), eventsReply_getD s k (show 3 < 4 by decide)]
    exact ⟨hflag, hfixed, hrest, two_bytes_toNat (by omega), byteOf_toNat_of_lt (by cases s.control.events[k].level <;> decide)⟩
  · intro one two
    refine ⟨?_, ?_, ?_, fun cells => ⟨packCells_length cells, fun i hi => packCells_getD cells hi⟩,
      fun i k => ⟨?_, ?_, ?_, ?_⟩⟩
    · rw [faultMapReply, ← List.flatMap_def]
      refine congrArg (_ ++ List.flatMap · _) (funext fun e => ?_)
      rw [faultBytes]
      cases e.kind <;> rfl
    · rw [modulesReply_eq]
      refine congrArg (_ ++ List.flatMap · _) (funext fun c => congrArg (List.flatMap · _) (funext fun r => ?_))
      rw [moduleBytes]
      cases r.state <;> rfl
    · rw [picksReply, ← List.flatMap_def, ← List.flatMap_def]
      refine congrArg₂ (fun f g => _ ++ List.flatMap f _ ++ List.flatMap g _) (funext fun e => ?_) (funext fun r => ?_)
      · rw [historyBytes]
        cases e.id <;> cases e.origin <;> rfl
      · rw [recordBytes]
        cases r.state <;> rfl
    · refine (rangeBytes_ofFn i k _).trans (congrArg (List.flatMap · _) (funext fun j => ?_))
      rcases s.tables.weaves[j] with _ | _ | (_ | _) <;> rfl
    · refine (rangeBytes_ofFn i k _).trans (congrArg (List.flatMap · _) (funext fun j => ?_))
      rcases s.tables.codes[j] with (_ | _) | _ <;> rfl
    · rw [tableReply, ← List.flatMap_def]
      refine congrArg₂ (fun x f => [x] ++ _ ++ List.flatMap f _) ?_ (funext fun g => ?_)
      · cases s.tables.tieValid <;> rfl
      · rw [segmentBytes]
        rcases g with ⟨_, _, direction, _, _, kind, selvedge⟩
        cases direction <;> cases kind <;> cases selvedge <;> rfl
    · refine (rangeBytes_ofFn i k _).trans (congrArg (List.flatMap · _) (funext fun j => ?_))
      rcases s.tables.wefts[j] with (_ | _) | _ <;> rfl

end Sys2Proof.Proofs.Layouts

/-! PROOFS. The rows of the loom inputs, of sizing, of expansion and of the rest timers (R24, R32, R33, R90, R91, R93, R96,
R101, R102, R123, R127). -/

namespace Sys2Proof.Proofs.UnitRows

open Sys2Proof Sys2Proof.Machine Sys2Proof.Proofs.RunRows

/-! ## Edges on the loom inputs (R90, R91, R96) -/

theorem edgeMatches_iff (e : EdgeSelect) (level : Bool) :
    edgeMatches e level = true ↔ e = .both ∨ (e = .rise ∧ level = true) ∨ (e = .fall ∧ level = false) := by
  cases e <;> simp [edgeMatches]

/-- The edge that input 0 counts or marks: one that the unit selects, on an owner. In RUN and HALT alone it does more. -/
theorem inputZero_of_not_edge {level : Bool} {s : State}
    (h : ¬(s.weft.levels[(0 : Fin 8)] ≠ level ∧ s.weft.owner = true ∧ weaving s = true ∧
      edgeMatches s.weft.arrivalEdge level = true)) :
    inputZero level s = setInputLevel 0 level s := by
  unfold inputZero
  split
  next hedge =>
    obtain ⟨hlevel, howner, hmatch⟩ := hedge
    exact if_neg fun hweaving => h ⟨hlevel, howner, hweaving, hmatch⟩
  next => rfl

theorem inputZero_of_edge {level : Bool} {s : State} (hlevel : s.weft.levels[(0 : Fin 8)] ≠ level)
    (howner : s.weft.owner = true) (hweaving : weaving s = true) (hmatch : edgeMatches s.weft.arrivalEdge level = true) :
    inputZero level s =
      if s.weft.window then s.setWeft { s.weft with levels := s.weft.levels.set 0 level, mark := true }
      else
        s.setWeft { s.weft with levels := s.weft.levels.set 0 level, outside := min (s.weft.outside + 1) 65535 } := by
  unfold inputZero
  rw [if_pos ⟨hlevel, howner, hmatch⟩]
  exact if_pos hweaving

/-- Settles O15: the edge of an input is the condition its row asks for; without it the level alone is seen. -/
theorem loomInputEdges : Obligations.LoomInputEdges := by
  unfold Obligations.LoomInputEdges
  constructor
  · intro level s w edge
    have hnext : exec (.loomInput0Edge level) s = .next (inputZero level s) := rfl
    simp only [edge, hnext, ← edgeMatches_iff]
    refine ⟨?_, ?_, fun hedge => congrArg _ (inputZero_of_not_edge hedge)⟩
    · rintro ⟨hlevel, howner, hweaving, hmatch⟩ hwindow
      rw [inputZero_of_edge hlevel howner hweaving hmatch, if_pos hwindow]
    · rintro ⟨hlevel, howner, hweaving, hmatch⟩ hwindow
      rw [inputZero_of_edge hlevel howner hweaving hmatch, if_neg (by rw [hwindow]; decide)]
  · intro n level s w edge
    have hnext : exec (.loomInputEdge n level) s = .next (inputLevel n level s) := rfl
    simp only [edge, hnext, ← edgeMatches_iff]
    exact ⟨fun hedge => congrArg _ (if_pos hedge), fun hedge => congrArg _ (if_neg hedge)⟩

/-! ## Rest timers (R127) -/

/-- Settles O49: only a RESTING module has a timer. -/
theorem restTimerExpires : Obligations.RestTimerExpires := by
  unfold Obligations.RestTimerExpires
  intro c k s
  have hnext : exec (.restTimerExpiry c k) s = .next (expireRest c k s) := rfl
  rw [hnext]
  constructor
  · intro r left hr hresting
    simp only [expireRest, moduleRecord, hr, hresting]
    rfl
  · intro hnone
    refine congrArg _ ?_
    unfold expireRest
    split
    next => rfl
    next r hr =>
      split
      next left hresting => exact absurd hresting (hnone r left hr)
      next => rfl
      next => rfl
      next => rfl

/-! ## Sizing (R101, R102, R123) -/

theorem all_found_iff (v : Vector (Option ChainSize) 6) : v.toList.all Option.isSome = true ↔ ∀ d : Fin 6, v[d] ≠ none := by
  simp only [List.all_eq_true, Vector.mem_toList_iff, Vector.mem_iff_getElem, Option.isSome_iff_ne_none]
  exact ⟨fun h d => h _ ⟨d.val, d.isLt, rfl⟩, fun h x ⟨i, hi, hx⟩ => hx ▸ h ⟨i, hi⟩⟩

theorem vector_set_of_ne {α : Type} {n : Nat} (v : Vector α n) (x : α) {c d : Fin n} (h : d ≠ c) :
    (v.set c x)[d] = v[d] :=
  Vector.getElem_set_ne c.isLt d.isLt fun hv => h (Fin.ext hv).symm

theorem vector_set_self {α : Type} {n : Nat} (v : Vector α n) (x : α) (c : Fin n) : (v.set c x)[c] = x :=
  Vector.getElem_set_self c.isLt

theorem endMarkerPass_eq {c : Fin 6} {v : Vector (Option ChainSize) 6} {s : State} (hs : s.selector.sizing = .marker v)
    (hc : v[c] = none) (p : Option (Fin 4096)) :
    endMarkerPass c p s =
      completeIfAll (v.set c (some (sizeOfMarker p)))
        ((if overLength p then raise .chainSize s else s).setSelector
          { s.selector with sizing := .marker (v.set c (some (sizeOfMarker p))) }) := by
  have hsome : ¬v[c].isSome = true := by rw [hc]; decide
  simp only [endMarkerPass, hs]
  rw [if_neg hsome]
  cases overLength p <;> rfl

theorem endMarkerPass_of_not_marker {c : Fin 6} {p : Option (Fin 4096)} {s : State}
    (h : ∀ v, s.selector.sizing ≠ .marker v) : endMarkerPass c p s = s := by
  unfold endMarkerPass
  split
  next v hv => exact absurd hv (h v)
  next => rfl
  next => rfl

theorem endMarkerPass_of_ended {c : Fin 6} {p : Option (Fin 4096)} {v : Vector (Option ChainSize) 6} {s : State}
    (hs : s.selector.sizing = .marker v) (hc : v[c] ≠ none) : endMarkerPass c p s = s := by
  simp only [endMarkerPass, hs]
  exact if_pos (Option.isSome_iff_ne_none.mpr hc)

/-- A marker pass after which another chain's pass is still to end completes nothing. -/
theorem endMarkerPass_partial {c d : Fin 6} {v : Vector (Option ChainSize) 6} {s : State}
    (hs : s.selector.sizing = .marker v) (hc : v[c] = none) (hcd : c ≠ d) (hd : v[d] = none) (p : Option (Fin 4096)) :
    endMarkerPass c p s =
      (if overLength p then raise .chainSize s else s).setSelector
        { s.selector with sizing := .marker (v.set c (some (sizeOfMarker p))) } := by
  rw [endMarkerPass_eq hs hc]
  refine if_neg fun hall => ?_
  exact (all_found_iff _).mp hall d ((vector_set_of_ne v _ hcd.symm).trans hd)

/-- The sizes that the marker passes found. -/
def foundSizes (v : Vector (Option ChainSize) 6) : Vector ChainSize 6 := Vector.ofFn fun d => v[d].getD .absent

theorem foundSizes_of_some {v : Vector (Option ChainSize) 6} {d : Fin 6} {x : ChainSize} (h : v[d] = some x) :
    (foundSizes v)[d] = x := by
  have hentry : (foundSizes v)[d] = v[d].getD .absent := Vector.getElem_ofFn _
  rw [hentry, h]
  rfl

/-- The last marker pass completes the sizing. -/
theorem endMarkerPass_last {c : Fin 6} {v : Vector (Option ChainSize) 6} {s : State}
    (hs : s.selector.sizing = .marker v) (hc : v[c] = none) (hv : ∀ d, d ≠ c → v[d] ≠ none) (p : Option (Fin 4096)) :
    endMarkerPass c p s =
      completeSizing (foundSizes (v.set c (some (sizeOfMarker p))))
        ((if overLength p then raise .chainSize s else s).setSelector
          { s.selector with sizing := .marker (v.set c (some (sizeOfMarker p))) }) := by
  rw [endMarkerPass_eq hs hc]
  refine if_pos ((all_found_iff _).mpr fun d => ?_)
  by_cases hd : d = c
  · rw [hd, vector_set_self]
    exact Option.some_ne_none _
  · rw [vector_set_of_ne v _ hd]
    exact hv d hd

/-- Settles O43: the flush, a pass among others, and the last pass, each by its own equation. -/
theorem sizingEnds : Obligations.SizingEnds := by
  unfold Obligations.SizingEnds
  have hnext : ∀ c p s, exec (.markerPassEnd c p) s = .next (endMarkerPass c p s) := fun _ _ _ => rfl
  have hflush : ∀ s, exec .sizingFlushEnd s = .next (endFlush s) := fun _ => rfl
  constructor
  · intro s
    simp only [hnext, hflush]
    refine ⟨fun hs => ?_, fun hs => ?_, fun c => ⟨fun hs => ?_, fun v hs hc => ?_⟩,
      fun c p hs => congrArg _ (endMarkerPass_of_not_marker hs),
      fun c p v hs hc => congrArg _ (endMarkerPass_of_ended hs hc),
      fun c d v hs hc hcd hd => ⟨congrArg _ (endMarkerPass_partial hs hc hcd hd none), fun p => ⟨fun hp => ?_, fun hp => ?_⟩⟩⟩
    · simp only [endFlush, hs]
    · unfold endFlush
      split
      next h => exact absurd h hs
      next => rfl
      next => rfl
    · simp only [chainOutputs, hs]
    · simp only [chainOutputs, hs, hc]
    · rw [endMarkerPass_partial hs hc hcd hd]
      simp only [sizeOfMarker, if_pos hp, overLength, decide_eq_false (show ¬2048 < p.val + 1 by omega)]
      rfl
    · rw [endMarkerPass_partial hs hc hcd hd]
      simp only [sizeOfMarker, if_neg (show ¬p.val + 1 ≤ 2048 by omega), overLength, decide_eq_true hp]
      rfl
  · intro c p v s hs hc hv size long
    have hsize : sizeOfMarker p = size := by cases p <;> rfl
    have hlong : overLength p = long := by cases p <;> rfl
    rw [hnext, endMarkerPass_last hs hc hv, hsize, hlong]
    clear_value size long
    refine ⟨_, rfl, ⟨foundSizes (v.set c (some size)), ?_, fun d hd => ?_, ?_, rfl,
      Vector.ofFn fun d => List.replicate (moduleCount (foundSizes (v.set c (some size)))[d]) freshModule, fun d => ?_, ?_⟩, ?_⟩
    · exact foundSizes_of_some (vector_set_self v _ c)
    · obtain ⟨x, hx⟩ := Option.ne_none_iff_exists'.mp (hv d hd)
      rw [hx, foundSizes_of_some ((vector_set_of_ne v _ hd).trans hx)]
    · rfl
    · exact Vector.getElem_ofFn _
    · cases long <;> rfl
    · cases long <;> simp [completeSizing, setNode]

/-! ## A record finished (R24, R32, R33) -/

theorem recordDone_nothing {s : State} (h : s.engine.backlog = []) : recordDone s = s := by
  simp only [recordDone, h]

theorem recordDone_eq {before after : List LiftRecord} {r : LiftRecord} {row : BacklogRow} {rows : List BacklogRow}
    {s : State} (hq : s.store.queue = before ++ r :: after) (hb : ∀ x ∈ before, x.state = .ready)
    (hr : r.state = .expanding) (hrow : s.engine.backlog = row :: rows) : recordDone s = completeRecord row r s := by
  have hunder : recordUnderWork s.store.queue = some r := hq ▸ recordUnderWork_append before after r hb hr
  simp only [recordDone, hrow, hunder]

theorem recordLifts_getElem? {h : Nat} {s : State} (hh : h < installed s) (row : BacklogRow) (r : LiftRecord) :
    (recordLifts s row r)[h]? = some (!forcedInRecord s h && hookLift s.tables row r.snapshot h) := by
  rw [recordLifts, List.getElem?_map, List.getElem?_range hh]
  rfl

theorem forcedInRecord_of_not_settled {h : Nat} {s : State} (hs : ∀ q ∈ s.engine.settled, q.1 ≠ h) :
    forcedInRecord s h = isListed s.health.faultMap h := by
  have hnone : s.engine.settled.find? (fun p => p.1 == h) = none :=
    List.find?_eq_none.mpr fun q hq => by simpa using hs q hq
  simp only [forcedInRecord, hnone]

theorem forcedInRecord_of_settled {h : Nat} {b : Bool} {s : State}
    (hs : s.engine.settled.find? (fun p => p.1 == h) = some (h, b)) : forcedInRecord s h = b := by
  simp only [forcedInRecord, hs]

theorem recordMark_eq (s : State) (row : BacklogRow) :
    recordMark s row = decide (∃ h < installed s, outsideDesign s.tables row h = true) := by
  rw [Bool.eq_iff_iff, decide_eq_true_iff, recordMark, List.any_eq_true]
  simp only [List.mem_range]

/-- Settles O44: the completed record stands where the record under work stood. -/
theorem recordTurnsReady : Obligations.RecordTurnsReady := by
  unfold Obligations.RecordTurnsReady
  intro s
  have hnext : exec .expansionRecordDone s = .next (recordDone s) := rfl
  simp only [hnext]
  refine ⟨fun h => congrArg _ (recordDone_nothing h), fun before after r row rows hq hb hr hrow => ?_⟩
  rw [recordDone_eq hq hb hr hrow]
  refine ⟨_, recordLifts s row r, rfl, ?_, fun h hh hs => ?_, fun h hh b hs => ?_, ?_, ?_, ?_⟩
  · rw [recordLifts, List.length_map, List.length_range]
  · rw [recordLifts_getElem? hh, forcedInRecord_of_not_settled hs]
  · rw [recordLifts_getElem? hh, forcedInRecord_of_settled hs]
  · rw [← recordMark_eq, completeRecord, hq, updateUnderWork_append _ before after r hb hr]
    cases recordMark s row <;> exact ⟨rfl, rfl⟩
  · rw [completeRecord]
    cases recordMark s row <;> simp [nextRecord, hrow, advanceBacklog]
  · rw [completeRecord]
    cases recordMark s row <;> simp [nextRecord]

/-! ## The end of a shift (R100, R103, R104, R106, R111, R112, R114) -/

/-- Two folds agree over a list when their steps agree wherever a predicate holds that the steps keep. -/
theorem foldl_congr_of_kept {α β : Type} {P : β → Prop} {f g : β → α → β} (hfg : ∀ t x, P t → f t x = g t x)
    (hP : ∀ t x, P t → P (g t x)) (l : List α) {t : β} (ht : P t) : l.foldl f t = l.foldl g t := by
  induction l generalizing t with
  | nil => rfl
  | cons x l ih => rw [List.foldl_cons, List.foldl_cons, hfg t x ht, ih (hP t x ht)]

/-- The module records of every chain are as many as the chain sizes of `s` say. -/
def SameLengths (s t : State) : Prop := ∀ d : Fin 6, t.health.modules[d].length = moduleCount s.selector.chains[d]

theorem sameLengths_foldl_takeWord {s t : State} (h : SameLengths s t) (latch : Shift) (c : Fin 6)
    (word : Nat → StatusWord) (l : List Nat) : SameLengths s (l.foldl (fun t k => takeWord latch c k (word k) t) t) :=
  List.foldlRecOn l _ h fun t ht k _ d => (takeWord_length latch c d k (word k) t).trans (ht d)

/-- The status, its words one after another in chain order and then module order. -/
theorem takeStatus_eq_foldl (latch : Shift) (status : List (List StatusWord)) {s : State} (h : ModuleLaw s) :
    takeStatus latch status s =
      ((List.finRange 6).flatMap fun c => (List.range (moduleCount s.selector.chains[c])).map fun k => (c, k)).foldl
        (fun t (p : Fin 6 × Nat) => takeWord latch p.1 p.2 (((status.getD p.1 [])[p.2]?).getD missingWord) t) s := by
  have hsame : SameLengths s s := fun d => (h d).1
  rw [List.foldl_flatMap]
  simp only [List.foldl_map]
  refine foldl_congr_of_kept (P := SameLengths s) (fun t c ht => ?_) (fun t c ht => ?_) [0, 1, 2, 3, 4, 5] hsame
  · rw [takeChain_eq_foldl, ht c]
    simp only [Nat.zero_add]
  · exact sameLengths_foldl_takeWord ht latch c _ _

/-- What a shift gives a PRESENT chain: its hooks' values, the outermost first. -/
theorem shiftOutputs_present {c : Fin 6} {m : Nat} {sh : Shift} {s : State} (hc : s.selector.chains[c] = .present m)
    (hsh : s.selector.shift = some sh) :
    shiftOutputs s c = ⟨(chainSlice (firstHook s c 0) m sh.values).reverse, true, false⟩ := by
  simp only [shiftOutputs, hc, hsh]

theorem chainSlice_reverse_getElem? {f m i : Nat} {values : List Bool} (h : f + 16 * m ≤ values.length) (hi : i < 16 * m) :
    (chainSlice f m values).reverse[16 * m - 1 - i]? = values[f + i]? := by
  have hlen := chainSlice_length f m values h
  rw [List.getElem?_reverse (by omega), hlen, show 16 * m - 1 - (16 * m - 1 - i) = i by omega,
    chainSlice_getElem? f m i values hi]

/-- The shift in flight after one has ended: none, or the pending one, composed from the state as it stands. -/
def startedShift (s : State) : Option Shift → Option ShiftKind → Option Shift
  | none, none => none
  | some sh, none => some sh
  | _, some .zero => some ⟨.zero, none, List.replicate (installed s) false⟩
  | _, some .pattern => some (patternShift s.store s)

/-- The pending shift that starts, a chain being PRESENT. -/
theorem startPending_eq {s : State} (h : anyPresent s = true) :
    startPending s =
      s.setSelector
        { s.selector with pending := none, shift := startedShift s s.selector.shift s.selector.pending } := by
  have hstart : ∀ kind, startShift kind (setPendingShift none s) =
      (setPendingShift none s).setSelector
        { (setPendingShift none s).selector with shift := some (composeShift kind (setPendingShift none s)) } :=
    fun kind => if_pos h
  unfold startPending
  rcases hp : s.selector.pending with _ | _ | _
  · have hshift : startedShift s s.selector.shift none = s.selector.shift := by
      cases s.selector.shift <;> rfl
    have hsame : { s.selector with pending := none } = s.selector := by rw [← hp]
    rw [hshift]
    exact (congrArg s.setSelector hsame).symm
  · cases s.selector.shift <;> exact hstart .pattern
  · cases s.selector.shift <;> exact hstart .zero

theorem patternShift_setSelector (p : PickStore) {x : Selector} {s : State} (h : x.chains = s.selector.chains) :
    patternShift p (s.setSelector x) = patternShift p s := by
  have hinstalled : installed (s.setSelector x) = installed s := by
    rw [installed, setSelector_selector, h]
    rfl
  rw [patternShift, hinstalled]
  rfl

/-- Settles O46: the words in their order, the slice of each chain, and the three parts of a shift's end. -/
theorem shiftEndLatches : Obligations.ShiftEndLatches := by
  unfold Obligations.ShiftEndLatches
  refine ⟨fun latch status s h => takeStatus_eq_foldl latch status h, fun c s hdone => ⟨fun hc => ?_, ?_⟩,
    fun status s => ⟨fun h => ?_, ?_⟩⟩
  · rw [chainOutputs_done hdone, shiftOutputs, hc]
  · intro m sh hc hsh hlen first x
    have hx : x = _ := (chainOutputs_done hdone c).trans (shiftOutputs_present hc hsh)
    have hfit : firstHook s c 0 + 16 * m ≤ sh.values.length := by
      have hle := firstHook_le_installed s c
      rw [hc] at hle
      rw [hlen]
      exact hle
    rw [hx]
    refine ⟨by rw [List.length_reverse, chainSlice_length _ _ _ hfit], rfl, rfl, fun k hk j hj => ?_⟩
    rw [chainSlice_reverse_getElem? hfit (by omega), Nat.add_assoc]
    rfl
  · have hend : endShift status s = s := by simp only [endShift, h]
    exact congrArg Host.Outcome.next hend
  · intro sh hsh hpresent judged
    have hend : exec (.shiftEnd status) s = .next (startPending judged) := by
      have hnext : exec (.shiftEnd status) s = .next (endShift status s) := rfl
      rw [hnext]
      simp only [endShift, hsh]
      rfl
    obtain ⟨hport : judged.port = s.port, hadmission : judged.admission = s.admission, hload : judged.load = s.load,
      htables : judged.tables = s.tables, hstore : judged.store = s.store, htracker : judged.tracker = s.tracker,
      hweft : judged.weft = s.weft, hsel : judged.selector = { s.selector with shift := none, latch := sh },
      hpending : judged.pending = s.pending, -, -⟩ :=
      takeStatus_frame s.selector.latch status (s.setSelector { s.selector with shift := none, latch := sh })
    clear_value judged
    have hany : anyPresent judged = true := by
      rw [anyPresent, hsel]
      exact (anyPresent_iff s).mpr hpresent
    have hinstalled : installed judged = installed s := by
      rw [installed, hsel]
      rfl
    rw [startPending_eq hany] at hend
    refine ⟨_, hend, rfl, rfl, rfl, rfl, ?_, hport, hadmission, hload, htables, hstore, htracker, hweft, hpending⟩
    rw [setSelector_selector, hsel]
    rcases hp : s.selector.pending with _ | _ | _
    · rfl
    · rw [← hstore]
      dsimp only
      rw [patternShift_setSelector _ (by rw [hsel])]
      rfl
    · rw [← hinstalled]
      rfl

end Sys2Proof.Proofs.UnitRows

/-! PROOFS. What a status word does to Hook Health: a finding taken against the Hook Fault Map (R113, R119, R120), and a word
acting on its module and its chain (R124-R131). -/

namespace Sys2Proof.Proofs.StatusRows

open Sys2Proof Sys2Proof.Machine Sys2Proof.Proofs.HealthLaws

/-! ## Findings (R113, R119, R120) -/

theorem findingEntry_iff (latch : Shift) (h : Nat) (f : Finding) (e : FaultEntry) :
    findingEntry latch h f = some e ↔
      e.hook = h ∧ latch.values[h]? = some true ∧ latch.source = some e.source ∧
        ((f = .opened ∧ e.kind = .opened) ∨ (f = .shorted ∧ e.kind = .shorted)) := by
  have hvalue : latch.values.getD h false = true ↔ latch.values[h]? = some true := by
    rw [List.getD_eq_getElem?_getD]
    cases latch.values[h]? <;> simp
  have htaken : ∀ kind source, latch.source = some source → (findingKind f = some kind) →
      (findingEntry latch h f = some e ↔ e.hook = h ∧ latch.values[h]? = some true ∧ source = e.source ∧ e.kind = kind) := by
    intro kind source hsource hkind
    have hentry : findingEntry latch h f = if latch.values.getD h false then some ⟨h, kind, source⟩ else none := by
      simp only [findingEntry, hsource, hkind]
    rw [hentry, ← hvalue]
    obtain ⟨hook, ekind, esource⟩ := e
    by_cases hv : latch.values.getD h false = true
    · rw [if_pos hv, Option.some_inj, FaultEntry.mk.injEq]
      exact ⟨fun ⟨h1, h2, h3⟩ => ⟨h1.symm, hv, h3, h2.symm⟩, fun ⟨h1, _, h3, h2⟩ => ⟨h1.symm, h2.symm, h3⟩⟩
    · rw [if_neg hv]
      exact ⟨fun hnone => (Option.some_ne_none _ hnone.symm).elim, fun ⟨_, hval, _⟩ => absurd hval hv⟩
  cases hsource : latch.source with
  | none => simp [findingEntry, hsource]
  | some source =>
    cases f with
    | ok => simp [findingEntry, findingKind]
    | opened => simp [htaken .opened source hsource rfl]
    | shorted => simp [htaken .shorted source hsource rfl]

theorem listed_iff {m : List FaultEntry} {h : Nat} : isListed m h = true ↔ h ∈ m.map FaultEntry.hook := by
  simp [isListed]

/-- An unlisted hook's entry stands between the lower hooks and the higher ones. -/
theorem insertFault_split {e : FaultEntry} {m : List FaultEntry} (hm : m.Pairwise fun a b => a.hook < b.hook)
    (he : isListed m e.hook = false) :
    ∃ before after, m = before ++ after ∧ insertFault e m = before ++ e :: after ∧
      (∀ x ∈ before, x.hook < e.hook) ∧ ∀ x ∈ after, e.hook < x.hook := by
  rw [not_listed_iff] at he
  induction m with
  | nil => exact ⟨[], [], rfl, rfl, by simp, by simp⟩
  | cons y ys ih =>
    obtain ⟨hy, hys⟩ := List.pairwise_cons.mp hm
    obtain ⟨hne, hne'⟩ := List.forall_mem_cons.mp he
    by_cases hlt : e.hook < y.hook
    · refine ⟨[], y :: ys, rfl, if_pos hlt, by simp, List.forall_mem_cons.mpr ⟨hlt, fun x hx => hlt.trans (hy x hx)⟩⟩
    · obtain ⟨before, after, hsplit, hins, hbefore, hafter⟩ := ih hys hne'
      refine ⟨y :: before, after, by rw [hsplit]; rfl, ?_, List.forall_mem_cons.mpr ⟨by omega, hbefore⟩, hafter⟩
      rw [insertFault, if_neg hlt, hins]
      rfl

/-- What settling a hook can do: nothing, or the hook settled in the record under work. -/
theorem settleHook_settled (h : Nat) (forced : Bool) (s : State) :
    (settleHook h forced s).engine.settled = s.engine.settled ∨
      (s.engine.backlog ≠ [] ∧ (∀ q ∈ s.engine.settled, q.1 ≠ h) ∧
        (settleHook h forced s).engine.settled = (h, forced) :: s.engine.settled) := by
  unfold settleHook
  split
  next => exact .inl rfl
  next hopen =>
    simp only [Bool.or_eq_true, not_or, List.isEmpty_iff, Bool.not_eq_true, List.any_eq_false, beq_iff_eq] at hopen
    obtain ⟨hwork, hnew⟩ := hopen
    by_cases hahead : Config.engineAhead s.draws h = true
    · exact .inr ⟨hwork, hnew, if_pos hahead⟩
    · exact .inl (if_neg hahead)

theorem listHook_health (e : FaultEntry) (s : State) :
    (listHook e s).health = { s.health with faultMap := insertFault e s.health.faultMap } := by
  simp [listHook]

theorem listHook_control (e : FaultEntry) (s : State) : (listHook e s).control = (raise .hookFault s).control :=
  raise_control_congr _ (by simp)

theorem isFailed_eq_false_iff (r : ModuleRecord) :
    isFailed r = false ↔ r.state = .active ∨ ∃ left, r.state = .resting left := by
  cases hs : r.state <;> simp [isFailed, hs]

theorem latchIfFull_latches {c : Fin 6} {k : Nat} {r : ModuleRecord} {s : State} (hr : moduleRecord s c k = some r)
    (hservice : isFailed r = false) (hfull : moduleFull s c k = true) :
    latchIfFull c k s = raise .moduleLatched (setModule c k { r with state := .latched } s) := by
  unfold latchIfFull
  rcases (isFailed_eq_false_iff r).mp hservice with hs | ⟨left, hs⟩
  · simp only [hr, hs]
    exact if_pos hfull
  · simp only [hr, hs]
    exact if_pos hfull

theorem latchIfFull_keeps {c : Fin 6} {k : Nat} {s : State}
    (h : ¬(moduleFull s c k = true ∧ ∃ r, moduleRecord s c k = some r ∧ isFailed r = false)) : latchIfFull c k s = s := by
  unfold latchIfFull
  split
  next => rfl
  next r hr =>
    have hopen : isFailed r = false → ¬moduleFull s c k = true := fun hservice hfull => h ⟨hfull, r, hr, hservice⟩
    split
    next hs => exact if_neg (hopen ((isFailed_eq_false_iff r).mpr (.inl hs)))
    next left hs => exact if_neg (hopen ((isFailed_eq_false_iff r).mpr (.inr ⟨left, hs⟩)))
    next => rfl
    next => rfl

/-- With a hook newly listed a module is full when its other hooks were listed before. -/
theorem moduleFull_listHook (e : FaultEntry) (c : Fin 6) (k : Nat) (s : State) :
    moduleFull (listHook e s) c k = true ↔
      ∀ j < 16, firstHook s c k + j = e.hook ∨ firstHook s c k + j ∈ s.health.faultMap.map FaultEntry.hook := by
  have hfirst : firstHook (listHook e s) c k = firstHook s c k := by simp [firstHook]
  have hlisted : ∀ h, isListed (insertFault e s.health.faultMap) h = true ↔
      h = e.hook ∨ h ∈ s.health.faultMap.map FaultEntry.hook := by
    intro h
    simp only [listed_iff, List.mem_map, mem_insertFault]
    constructor
    · rintro ⟨x, rfl | hx, rfl⟩
      · exact .inl rfl
      · exact .inr ⟨x, hx, rfl⟩
    · rintro (rfl | ⟨x, hx, rfl⟩)
      · exact ⟨e, .inl rfl, rfl⟩
      · exact ⟨x, .inr hx, rfl⟩
  simp only [moduleFull, List.all_eq_true, List.mem_range, hfirst, listHook_health, hlisted]

theorem moduleRecord_listHook (e : FaultEntry) (c : Fin 6) (k : Nat) (s : State) :
    moduleRecord (listHook e s) c k = s.health.modules[c][k]? := by
  rw [moduleRecord, listHook_health]

/-- Settles O48: listed, full map, or a new entry, after which the module latches or not. -/
theorem findingsFillTheMap : Obligations.FindingsFillTheMap := by
  unfold Obligations.FindingsFillTheMap
  refine fun latch h f e => ⟨findingEntry_iff latch h f e, fun c k s hlaw _ => ⟨fun hin => ?_, fun hout hlen => ?_,
    fun hout hlen => ?_⟩⟩
  · exact if_pos (listed_iff.mpr hin)
  · rw [takeFinding, if_neg (mt listed_iff.mp hout)]
    exact if_neg (by rw [hlen]; decide)
  · obtain ⟨-, hsorted, -, -⟩ := hlaw
    have hunlisted : isListed s.health.faultMap e.hook = false := Bool.eq_false_iff.mpr (mt listed_iff.mp hout)
    have htaken : takeFinding c k e s = latchIfFull c k (listHook e s) := by
      rw [takeFinding, if_neg (mt listed_iff.mp hout)]
      exact if_pos hlen
    obtain ⟨before, after, hsplit, hins, hbefore, hafter⟩ := insertFault_split hsorted hunlisted
    intro t full
    have hframe : t.port = s.port ∧ t.admission = s.admission ∧ t.load = s.load ∧ t.tables = s.tables ∧ t.store = s.store ∧
        t.tracker = s.tracker ∧ t.weft = s.weft ∧ t.selector = s.selector ∧ t.engine.backlog = s.engine.backlog ∧
        t.engine.rowCounters = s.engine.rowCounters ∧
        t.engine.settled = (settleHook e.hook false s).engine.settled ∧ t.draws = (settleHook e.hook false s).draws ∧
        t.pending = s.pending := by
      simp only [t, htaken]
      simp [listHook]
    have hdraws : s.draws ≤ (settleHook e.hook false s).draws := by
      obtain ⟨_, draws, -, hle, hs⟩ := settleHook_adds e.hook false s
      rw [hs]
      exact hle
    obtain ⟨hport, hadmission, hload, htables, hstore, htracker, hweft, hselector, hbacklog, hcounters, hsettled, hdrawn,
      hpending⟩ := hframe
    refine ⟨?_, hport, hadmission, hload, htables, hstore, htracker, hweft, hselector, hbacklog, hcounters,
      hsettled ▸ settleHook_settled e.hook false s, hdrawn ▸ hdraws, hpending⟩
    by_cases hlatch : full ∧ ∃ r, s.health.modules[c][k]? = some r ∧ isFailed r = false
    · obtain ⟨hfull, r, hr, hservice⟩ := hlatch
      have ht : t = raise .moduleLatched (setModule c k { r with state := .latched } (listHook e s)) :=
        htaken.trans (latchIfFull_latches ((moduleRecord_listHook e c k s).trans hr) hservice
          ((moduleFull_listHook e c k s).mpr hfull))
      refine ⟨before, after, s.health.modules.set c (s.health.modules[c].set k { r with state := .latched }), hsplit, ?_,
        hbefore, hafter, fun r' hr' _ _ => ?_, fun hnot => absurd ⟨hfull, r, hr, hservice⟩ hnot⟩
      · rw [ht, ← hins]
        exact (congrArg (fun x : Health => { x with modules := x.modules.set c (x.modules[c].set k { r with state := .latched }) })
          (listHook_health e s))
      · obtain rfl : r = r' := Option.some.inj (hr.symm.trans hr')
        refine ⟨rfl, ?_⟩
        rw [ht]
        exact raise_control_congr _ (listHook_control e s)
    · have ht : t = listHook e s :=
        htaken.trans (latchIfFull_keeps fun hfull => hlatch
          (by rwa [moduleFull_listHook, moduleRecord_listHook] at hfull))
      refine ⟨before, after, s.health.modules, hsplit, ?_, hbefore, hafter,
        fun r hr hservice hfull => absurd ⟨hfull, r, hr, hservice⟩ hlatch, fun _ => ⟨rfl, ?_⟩⟩
      · rw [ht, listHook_health, hins]
      · rw [ht, listHook_control]

/-! ## A word on its module and its chain (R124-R131) -/

/-- The other modules of a chain are out of service. -/
def OthersFailed (rs : List ModuleRecord) (k : Nat) : Prop := ∀ (j : Nat) (o : ModuleRecord), j ≠ k → rs[j]? = some o → isFailed o = true

theorem chainFailed_iff {rs : List ModuleRecord} (h : rs ≠ []) : chainFailed rs = true ↔ ∀ x ∈ rs, isFailed x = true := by
  simp [chainFailed, h]

theorem all_failed_iff {rs : List ModuleRecord} {k : Nat} {r : ModuleRecord} (hr : rs[k]? = some r) :
    (∀ x ∈ rs, isFailed x = true) ↔ isFailed r = true ∧ OthersFailed rs k := by
  constructor
  · exact fun h => ⟨h r (List.mem_of_getElem? hr), fun j o _ ho => h o (List.mem_of_getElem? ho)⟩
  · rintro ⟨hself, hothers⟩ x hx
    obtain ⟨j, hj⟩ := List.mem_iff_getElem?.mp hx
    by_cases hjk : j = k
    · obtain rfl : r = x := Option.some.inj (hr.symm.trans (hjk ▸ hj))
      exact hself
    · exact hothers j x hjk hj

theorem ne_nil_of_getElem? {α : Type} {l : List α} {k : Nat} {x : α} (h : l[k]? = some x) : l ≠ [] :=
  List.ne_nil_of_mem (List.mem_of_getElem? h)

theorem chainFailed_set {rs : List ModuleRecord} {k : Nat} {r : ModuleRecord} (hr : rs[k]? = some r) (x : ModuleRecord) :
    chainFailed (rs.set k x) = true ↔ isFailed x = true ∧ OthersFailed rs k := by
  obtain ⟨hk, -⟩ := List.getElem?_eq_some_iff.mp hr
  have hx : (rs.set k x)[k]? = some x := by rw [List.getElem?_set_self hk]
  rw [chainFailed_iff (ne_nil_of_getElem? hx), all_failed_iff hx]
  refine and_congr_right fun _ => forall_congr' fun j => forall_congr' fun o => imp_congr_right fun hj => ?_
  rw [List.getElem?_set_ne (Ne.symm hj)]

theorem chainFailed_eq {rs : List ModuleRecord} {k : Nat} {r : ModuleRecord} (hr : rs[k]? = some r) :
    chainFailed rs = true ↔ isFailed r = true ∧ OthersFailed rs k := by
  rw [chainFailed_iff (ne_nil_of_getElem? hr), all_failed_iff hr]

theorem judgeChain_keeps {c : Fin 6} {before : Bool} {u : State} (h : chainFailed u.health.modules[c] = true → before = true) :
    judgeChain c before u = u := by
  refine if_neg fun hc => ?_
  obtain ⟨hbefore, hafter⟩ := Bool.and_eq_true_iff.mp hc
  rw [h hafter] at hbefore
  exact Bool.false_ne_true hbefore

theorem judgeChain_self (c : Fin 6) (s : State) : judgeChain c (chainFailed s.health.modules[c]) s = s :=
  judgeChain_keeps id

theorem judgeChain_fails {c : Fin 6} {before : Bool} {u : State} (hbefore : before = false)
    (hafter : chainFailed u.health.modules[c] = true) : judgeChain c before u = raise .chainFailed u :=
  if_pos (by rw [hbefore, hafter]; rfl)

section
variable {c : Fin 6} {k : Nat} {r x : ModuleRecord} {s u : State} (hr : s.health.modules[c][k]? = some r)
  (hu : u.health.modules[c] = s.health.modules[c].set k x)
include hr hu

/-- A module that stays in service, or was out of it already, does not fail its chain. -/
theorem judgeChain_of_kept (h : isFailed x = true → isFailed r = true) :
    judgeChain c (chainFailed s.health.modules[c]) u = u := by
  refine judgeChain_keeps fun hafter => ?_
  rw [hu, chainFailed_set hr] at hafter
  exact (chainFailed_eq hr).mpr (hafter.imp_left h)

/-- A module that goes out of service fails its chain exactly when it was the last one in it. -/
theorem judgeChain_of_lost (hservice : isFailed r = false) (hx : isFailed x = true) :
    (OthersFailed s.health.modules[c] k →
        judgeChain c (chainFailed s.health.modules[c]) u = raise .chainFailed u) ∧
      (¬OthersFailed s.health.modules[c] k → judgeChain c (chainFailed s.health.modules[c]) u = u) := by
  have hbefore : chainFailed s.health.modules[c] = false := by
    rw [Bool.eq_false_iff, ne_eq, chainFailed_eq hr, hservice]
    exact fun h => Bool.false_ne_true h.1
  refine ⟨fun hothers => judgeChain_fails hbefore ?_, fun hothers => judgeChain_keeps fun hafter => ?_⟩
  · rw [hu, chainFailed_set hr]
    exact ⟨hx, hothers⟩
  · rw [hu, chainFailed_set hr] at hafter
    exact absurd hafter.2 hothers

end

theorem setModule_modules (c : Fin 6) (k : Nat) (x : ModuleRecord) (s : State) :
    (setModule c k x s).health.modules[c] = s.health.modules[c].set k x :=
  Vector.getElem_set_self c.isLt

theorem takeWord_eq {latch : Shift} {c : Fin 6} {k : Nat} {w : StatusWord} {r : ModuleRecord} {s : State}
    (hr : s.health.modules[c][k]? = some r) :
    takeWord latch c k w s =
      judgeChain c (chainFailed s.health.modules[c])
        (if w.present then takePresent latch c k w r s else loseModule c k r s) := by
  simp only [takeWord, moduleRecord, hr]

/-- One finding of a word, taken if it is one. -/
def takeOne (latch : Shift) (c : Fin 6) (k : Nat) (h : Nat) (f : Finding) (s : State) : State :=
  match findingEntry latch h f with
  | some e => takeFinding c k e s
  | none => s

theorem takeFindings_eq_foldl (latch : Shift) (c : Fin 6) (k h : Nat) (fs : List Finding) (s : State) :
    takeFindings latch c k h fs s =
      (List.finRange fs.length).foldl (fun t (m : Fin fs.length) => takeOne latch c k (h + m) fs[m] t) s := by
  induction fs generalizing h s with
  | nil => rfl
  | cons f fs ih =>
    have hstep : takeFindings latch c k h (f :: fs) s = takeFindings latch c k (h + 1) fs (takeOne latch c k h f s) := rfl
    have hrange : List.finRange (f :: fs).length = 0 :: (List.finRange fs.length).map Fin.succ := List.finRange_succ
    rw [hstep, ih, hrange, List.foldl_cons, List.foldl_map]
    simp [Nat.add_comm, Nat.add_left_comm]

/-- The findings of a word, in magnet order. -/
theorem takeFindings_word (latch : Shift) (c : Fin 6) (k h : Nat) {n : Nat} (v : Vector Finding n) (s : State) :
    takeFindings latch c k h v.toList s =
      (List.finRange n).foldl (fun t (m : Fin n) => takeOne latch c k (h + m) v[m] t) s := by
  obtain ⟨⟨l⟩, hl⟩ := v
  subst hl
  exact takeFindings_eq_foldl latch c k h l s

/-- A word with no finding that is taken acts by its overcurrent alone. -/
theorem takePresent_of_no_finding {latch : Shift} {c : Fin 6} {k : Nat} {w : StatusWord} {r : ModuleRecord} {s : State}
    (h : ∀ m : Fin 16, findingEntry latch (firstHook s c k + m) w.magnets[m] = none) :
    takePresent latch c k w r s = takeOvercurrent c k w.overcurrent s := by
  have hone : ∀ (m : Fin 16) t, takeOne latch c k (firstHook s c k + m) w.magnets[m] t = t := by
    intro m t
    simp only [takeOne, h m]
  have hnone : takeFindings latch c k (firstHook s c k) w.magnets.toList s = s := by
    rw [takeFindings_word]
    exact List.foldlRecOn (motive := fun t => t = s) _ _ rfl fun t ht m _ => (hone m t).trans ht
  rw [takePresent, hnone, ite_self]

theorem findingEntry_ok (latch : Shift) (h : Nat) : findingEntry latch h .ok = none := rfl

/-- What the findings of a word leave of its module's chain: the records as they were, or the module latched that was in
service before. -/
def FindingsKept (c : Fin 6) (k : Nat) (r : ModuleRecord) (s t : State) : Prop :=
  t.health.modules[c] = s.health.modules[c] ∨
    (isFailed r = false ∧ t.health.modules[c] = s.health.modules[c].set k { r with state := .latched })

theorem takeFinding_kept {c : Fin 6} {k : Nat} {r : ModuleRecord} {s t : State} (hr : s.health.modules[c][k]? = some r)
    (h : FindingsKept c k r s t) (e : FaultEntry) : FindingsKept c k r s (takeFinding c k e t) := by
  have hlist : FindingsKept c k r s (listHook e t) := by rwa [FindingsKept, listHook_health]
  unfold takeFinding
  split
  next => exact h
  next =>
    split
    next =>
      by_cases hlatch : moduleFull (listHook e t) c k = true ∧
          ∃ r', moduleRecord (listHook e t) c k = some r' ∧ isFailed r' = false
      · obtain ⟨hfull, r', hr', hservice⟩ := hlatch
        rw [latchIfFull_latches hr' hservice hfull]
        rcases hlist with hsame | ⟨-, hset⟩
        · obtain rfl : r' = r := Option.some.inj (hr'.symm.trans (by rw [moduleRecord, hsame, hr]))
          refine .inr ⟨hservice, ?_⟩
          have hmodules : (setModule c k { r' with state := .latched } (listHook e t)).health.modules[c] = _ :=
            setModule_modules c k _ _
          rw [hsame] at hmodules
          exact hmodules
        · obtain ⟨hk, -⟩ := List.getElem?_eq_some_iff.mp hr
          rw [moduleRecord, hset, List.getElem?_set_self hk] at hr'
          rw [← Option.some.inj hr'] at hservice
          exact absurd hservice (show ¬true = false by decide)
      · rw [latchIfFull_keeps hlatch]
        exact hlist
    next => exact h

theorem takeOne_kept {latch : Shift} {c : Fin 6} {k h : Nat} {f : Finding} {r : ModuleRecord} {s t : State}
    (hr : s.health.modules[c][k]? = some r) (ht : FindingsKept c k r s t) :
    FindingsKept c k r s (takeOne latch c k h f t) := by
  unfold takeOne
  split
  next e _ => exact takeFinding_kept hr ht e
  next => exact ht

section
variable {latch : Shift} {c : Fin 6} {k : Nat} {w : StatusWord} {r x : ModuleRecord} {s u : State}
  (hr : s.health.modules[c][k]? = some r)
include hr

theorem takeWord_absent (hp : w.present = false) :
    takeWord latch c k w s = judgeChain c (chainFailed s.health.modules[c]) (loseModule c k r s) := by
  rw [takeWord_eq hr, hp]
  rfl

theorem takeWord_present (hp : w.present = true) :
    takeWord latch c k w s = judgeChain c (chainFailed s.health.modules[c]) (takePresent latch c k w r s) := by
  rw [takeWord_eq hr, hp]
  rfl

theorem takeOvercurrent_active (hs : r.state = .active) (overcurrent : Bool) :
    takeOvercurrent c k overcurrent s = if overcurrent then strike c k r s else cleanShift c k r s := by
  simp only [takeOvercurrent, moduleRecord, hr, hs]

theorem takeOvercurrent_resting {left : Nat} (hs : r.state = .resting left) (overcurrent : Bool) :
    takeOvercurrent c k overcurrent s = if overcurrent then strike c k r s else s := by
  simp only [takeOvercurrent, moduleRecord, hr, hs]

theorem takeOvercurrent_strike (hservice : isFailed r = false) : takeOvercurrent c k true s = strike c k r s := by
  rcases (isFailed_eq_false_iff r).mp hservice with hs | ⟨left, hs⟩
  · exact takeOvercurrent_active hr hs true
  · exact takeOvercurrent_resting hr hs true

theorem takeOvercurrent_failed (hfailed : r.state = .latched ∨ r.state = .lost) (overcurrent : Bool) :
    takeOvercurrent c k overcurrent s = s := by
  rcases hfailed with hs | hs <;> simp only [takeOvercurrent, moduleRecord, hr, hs]

/-- After its findings the module's record is one that is not LOST, and the chain was failed before only if it is now. -/
theorem record_after_findings (hlost : r.state ≠ .lost) (h : FindingsKept c k r s u) :
    (∃ r', u.health.modules[c][k]? = some r' ∧ r'.state ≠ .lost) ∧
      (chainFailed s.health.modules[c] = true → chainFailed u.health.modules[c] = true) := by
  rcases h with hsame | ⟨hservice, hset⟩
  · rw [hsame]
    exact ⟨⟨r, hr, hlost⟩, id⟩
  · obtain ⟨hk, -⟩ := List.getElem?_eq_some_iff.mp hr
    rw [hset]
    refine ⟨⟨_, List.getElem?_set_self hk, fun h => ModuleState.noConfusion h⟩, fun hfailed => ?_⟩
    rw [chainFailed_eq hr, hservice] at hfailed
    exact absurd hfailed.1 Bool.false_ne_true

/-- Findings that fail the chain have latched its module. -/
theorem latched_of_findings_fail (h : FindingsKept c k r s u) (hbefore : chainFailed s.health.modules[c] = false)
    (hafter : chainFailed u.health.modules[c] = true) :
    u.health.modules[c][k]? = some { r with state := .latched } := by
  rcases h with hsame | ⟨-, hset⟩
  · rw [hsame, hbefore] at hafter
    exact absurd hafter Bool.false_ne_true
  · obtain ⟨hk, -⟩ := List.getElem?_eq_some_iff.mp hr
    rw [hset]
    exact List.getElem?_set_self hk

end

/-- Settles O47: the word's part on the module, then the chain judged by what became of that module. -/
theorem statusWordActsOnModule : Obligations.StatusWordActsOnModule := by
  unfold Obligations.StatusWordActsOnModule
  intro latch c k w r s hr becomes alone fails
  have hbecomes : ∀ {u : State} {x : ModuleRecord}, u.health.modules[c] = s.health.modules[c].set k x →
      (isFailed x = true → isFailed r = true) → judgeChain c (chainFailed s.health.modules[c]) u = u :=
    fun hu h => judgeChain_of_kept hr hu h
  have hraise : ∀ (kind : EventKind) (x : ModuleRecord),
      (raise kind (setModule c k x s)).health.modules[c] = s.health.modules[c].set k x :=
    fun kind x => setModule_modules c k x s
  have hfails : ∀ (kind : EventKind) (x : ModuleRecord), isFailed r = false → isFailed x = true →
      takeWord latch c k w s = judgeChain c (chainFailed s.health.modules[c]) (raise kind (setModule c k x s)) →
      fails x kind := by
    intro kind x hservice hx hword
    obtain ⟨hlast, hothers⟩ := judgeChain_of_lost hr (hraise kind x) hservice hx
    exact ⟨fun h => hword.trans (hlast h), fun h => hword.trans (hothers h)⟩
  refine ⟨fun hp => ?_, fun hp => ⟨fun hs => ?_, fun hnone => ?_, fun hlost => ?_⟩⟩
  · have hword := takeWord_absent (latch := latch) hr hp
    refine ⟨fun hs => ?_, fun hs => ?_, fun hservice => ?_⟩
    · rw [hword, loseModule, if_pos hs, judgeChain_self]
    · rw [loseModule, if_neg (by rw [hs]; exact ModuleState.noConfusion), hbecomes (hraise _ _)] at hword
      · exact hword
      · exact fun _ => by rw [isFailed, hs]; rfl
    · rw [loseModule, if_neg (fun hs => by rw [isFailed, hs] at hservice; exact absurd hservice (by decide))] at hword
      exact hfails _ _ hservice rfl hword
  · rw [takeWord_present hr hp, takePresent, if_pos hs, takeOvercurrent_failed hr (.inr hs), judgeChain_self]
  · have hword := takeWord_present (latch := latch) hr hp
    rw [takePresent_of_no_finding hnone] at hword
    refine ⟨fun hs => ?_, fun hservice hover => ⟨fun hstrikes => ?_, fun hstrikes => ?_⟩,
      fun hs hover => ⟨fun hclean => ?_, fun hclean => ?_⟩, fun left hs hover => ?_⟩
    · rw [hword, takeOvercurrent_failed hr (.inl hs), judgeChain_self]
    · rw [hover, takeOvercurrent_strike hr hservice, strike, if_pos (by omega), hstrikes] at hword
      exact hfails _ _ hservice rfl hword
    · rw [hover, takeOvercurrent_strike hr hservice, strike, if_neg (by omega), hbecomes (hraise _ _)] at hword
      · exact hword
      · exact fun h => absurd h Bool.false_ne_true
    · rw [hover, takeOvercurrent_active hr hs, if_neg Bool.false_ne_true, cleanShift, if_neg (by omega),
        hbecomes (setModule_modules c k _ s)] at hword
      · exact hword
      · exact id
    · rw [hover, takeOvercurrent_active hr hs, if_neg Bool.false_ne_true, cleanShift, if_pos (by omega),
        hbecomes (setModule_modules c k _ s)] at hword
      · exact hword
      · exact id
    · rw [hword, hover, takeOvercurrent_resting hr hs, if_neg Bool.false_ne_true, judgeChain_self]
  · intro u failed
    have hu : takeFindings latch c k (firstHook s c k) w.magnets.toList s = u := takeFindings_word latch c k _ w.magnets s
    have hkept : FindingsKept c k r s u :=
      List.foldlRecOn (motive := FindingsKept c k r s) (List.finRange 16) _ (.inl rfl) fun t ht m _ => takeOne_kept hr ht
    have hword : takeWord latch c k w s =
        judgeChain c (chainFailed s.health.modules[c]) (takeOvercurrent c k w.overcurrent u) := by
      rw [takeWord_present hr hp, takePresent, if_neg hlost, hu]
    clear_value u
    obtain ⟨⟨r', hr', -⟩, hmono⟩ := record_after_findings hr hlost hkept
    have hs : chainFailed s.health.modules[c] = true ↔ failed s := chainFailed_iff (ne_nil_of_getElem? hr)
    have hf : chainFailed u.health.modules[c] = true ↔ failed u := chainFailed_iff (ne_nil_of_getElem? hr')
    constructor
    · rintro ⟨hafter, hbefore⟩
      have hbefore : chainFailed s.health.modules[c] = false := Bool.eq_false_iff.mpr (mt hs.mp hbefore)
      rw [hword, takeOvercurrent_failed (latched_of_findings_fail hr hkept hbefore (hf.mpr hafter)) (.inl rfl)]
      exact judgeChain_fails hbefore (hf.mpr hafter)
    · intro hnot
      have hsame : chainFailed s.health.modules[c] = chainFailed u.health.modules[c] := by
        rw [Bool.eq_iff_iff]
        exact ⟨hmono, fun h => hs.mpr (by_contra fun h' => hnot ⟨hf.mp h, h'⟩)⟩
      rw [takeWord_present hr' (w := { w with magnets := Vector.replicate 16 .ok }) hp,
        takePresent_of_no_finding fun m => by
          rw [show (Vector.replicate 16 Finding.ok)[m] = Finding.ok from Vector.getElem_replicate _]
          exact findingEntry_ok _ _,
        hword, hsame]

end Sys2Proof.Proofs.StatusRows

/-! PROOFS. DESIGN frames: the layout of a row, readiness, the nine checks, and acceptance (R15, R20-R25, R160, R168,
R171-R179). -/

namespace Sys2Proof.Proofs.DesignRows

open Sys2Proof Sys2Proof.Machine Sys2Proof.Proofs.LoadRows Sys2Proof.Proofs.UnitRows

/-! ## The layout of a row (R168, R173) -/

/-- Run `i` of the bytes after the first six of a DESIGN body. -/
def runAt (bytes : List Byte) (i : Nat) : Run :=
  { code := (bytes.getD (3 * i) 0).toNat,
    length := (bytes.getD (3 * i + 1) 0).toNat * 256 + (bytes.getD (3 * i + 2) 0).toNat }

theorem decodeRuns_eq (n : Nat) (bytes : List Byte) :
    decodeRuns n bytes = if bytes.length = 3 * n then some ((List.range n).map (runAt bytes)) else none := by
  induction n generalizing bytes with
  | zero => cases bytes <;> simp [decodeRuns]
  | succ n ih =>
    match bytes with
    | [] => simp [decodeRuns]
    | [_] => rw [if_neg (by simp only [List.length_singleton]; omega)]; rfl
    | [_, _] => rw [if_neg (by simp only [List.length_cons, List.length_nil]; omega)]; rfl
    | code :: l1 :: l0 :: rest =>
      have hlen : (code :: l1 :: l0 :: rest).length = 3 * (n + 1) ↔ rest.length = 3 * n := by
        simp only [List.length_cons]
        omega
      have hlater : ∀ i, runAt (code :: l1 :: l0 :: rest) (i + 1) = runAt rest i := fun i => by
        simp [runAt, Nat.mul_add]
      rw [decodeRuns, ih]
      by_cases h : rest.length = 3 * n
      · rw [if_pos h, if_pos (hlen.mpr h), List.range_succ_eq_map, List.map_cons, List.map_map]
        simp only [Function.comp_def, Nat.succ_eq_add_one, hlater]
        rfl
      · rw [if_neg h, if_neg (mt hlen.mp h)]
        rfl

theorem decodeDesign_eq (body : List Byte) :
    decodeDesign body =
      if body.length = 6 + 3 * ((body.getD 4 0).toNat * 256 + (body.getD 5 0).toNat) then
        some
          { pick := (body.getD 0 0).toNat * 256 + (body.getD 1 0).toNat, colour := (body.getD 2 0).toNat,
            count := (body.getD 3 0).toNat,
            runs := (List.range ((body.getD 4 0).toNat * 256 + (body.getD 5 0).toNat)).map (runAt (body.drop 6)) }
      else none := by
  match body with
  | p1 :: p0 :: colour :: count :: n1 :: n0 :: rest =>
    have hlen : (p1 :: p0 :: colour :: count :: n1 :: n0 :: rest).length = 6 + 3 * num16 n1 n0 ↔
        rest.length = 3 * num16 n1 n0 := by
      simp only [List.length_cons]
      omega
    rw [decodeDesign, decodeRuns_eq]
    by_cases h : rest.length = 3 * num16 n1 n0
    · rw [if_pos h]
      exact (if_pos (hlen.mpr h)).symm
    · rw [if_neg h]
      exact (if_neg (mt hlen.mp h)).symm
  | [] | [_] | [_, _] | [_, _, _] | [_, _, _, _] | [_, _, _, _, _] =>
    rw [if_neg (by simp only [List.length_cons, List.length_nil]; omega)]
    rfl

/-! ## Readiness (R15) -/

theorem tieReady_iff (t : Tables) :
    tieReady t = true ↔
      t.tieValid = true ∧
        ∀ g ∈ t.tie, g.kind = .selvedge →
          ∃ (slot : Fin 16) (invert : Nat) (w : Geometry),
            g.selvedge = some (slot.val, invert) ∧ t.weaves[slot] = .loaded w := by
  simp only [tieReady, Bool.and_eq_true, List.all_eq_true, segmentReady_iff]

theorem codeAt_iff (t : Tables) (code : Nat) (f : CodeFields) :
    codeAt t code = some f ↔ ∃ k : Fin 16, code = k.val ∧ t.codes[k] = .mapped f := by
  unfold codeAt
  by_cases hcode : code < 16
  · rw [dif_pos hcode]
    have hentry : mappedFields t.codes[code] = some f ↔ t.codes[code] = .mapped f := by
      cases t.codes[code] <;> simp [mappedFields]
    rw [hentry]
    constructor
    · exact fun h => ⟨⟨code, hcode⟩, rfl, h⟩
    · rintro ⟨k, rfl, h⟩
      exact h
  · rw [dif_neg hcode]
    constructor
    · exact fun h => (Option.some_ne_none _ h.symm).elim
    · rintro ⟨k, rfl, -⟩
      exact absurd k.isLt hcode

theorem codeReady_iff (t : Tables) (code : Nat) :
    codeReady t code = true ↔
      ∃ (k slot : Fin 16) (f : CodeFields) (w : Geometry),
        code = k.val ∧ t.codes[k] = .mapped f ∧ f.slot = slot.val ∧ t.weaves[slot] = .loaded w := by
  have hready : codeReady t code = true ↔ ∃ f, codeAt t code = some f ∧ weaveLoaded t f.slot = true := by
    unfold codeReady
    cases codeAt t code <;> simp
  rw [hready]
  simp only [codeAt_iff, weaveLoaded_iff]
  constructor
  · rintro ⟨f, ⟨k, hk, hf⟩, slot, w, hslot, hw⟩
    exact ⟨k, slot, f, w, hk, hf, hslot, hw⟩
  · rintro ⟨k, slot, f, w, hk, hf, hslot, hw⟩
    exact ⟨f, ⟨k, hk, hf⟩, slot, w, hslot, hw⟩

theorem feederAt_iff (t : Tables) (colour feeder : Nat) :
    feederAt t colour = some feeder ↔ ∃ k : Fin 8, colour = k.val ∧ t.wefts[k] = .mapped feeder := by
  unfold feederAt
  by_cases hcolour : colour < 8
  · rw [dif_pos hcolour]
    have hentry : mappedFeeder t.wefts[colour] = some feeder ↔ t.wefts[colour] = .mapped feeder := by
      cases t.wefts[colour] <;> simp [mappedFeeder]
    rw [hentry]
    constructor
    · exact fun h => ⟨⟨colour, hcolour⟩, rfl, h⟩
    · rintro ⟨k, rfl, h⟩
      exact h
  · rw [dif_neg hcolour]
    constructor
    · exact fun h => (Option.some_ne_none _ h.symm).elim
    · rintro ⟨k, rfl, -⟩
      exact absurd k.isLt hcolour

/-! ## The decision (R171-R179) -/

/-- The row is well formed and covers the design width (R173). -/
abbrev Shaped (row : DesignRow) (width : Nat) : Prop :=
  1 ≤ row.count ∧ row.count ≤ 8 ∧ 1 ≤ row.runs.length ∧ row.runs.length ≤ 512 ∧
    (∀ r ∈ row.runs, r.code ≤ 15 ∧ 1 ≤ r.length ∧ r.length ≤ 16384) ∧ width ≠ 0 ∧ (row.runs.map Run.length).sum = width

theorem rowOk_iff (width : Nat) (row : DesignRow) : rowOk width row = true ↔ Shaped row width := by
  simp only [rowOk, runOk, rowWidth, Shaped, Bool.and_eq_true, decide_eq_true_eq, List.all_eq_true, bne_iff_ne, beq_iff_eq,
    and_assoc]

/-- A numbered node's answer to a DESIGN frame, by the outcome. -/
theorem exec_design {body : List Byte} {n : Fin 4} {o : OutcomeCode} {s : State} (hn : s.port.number = some n)
    (h : Header) (ho : judgeDesign body s = o) :
    exec (.designFrame h body) s =
      .next
        (withActed
          { kind := 0x01#8, dest := h.dest, tag := h.tag,
            slots := h.slots.set n (slotWord o false (applyDesign o body s)), body := body }
          (applyDesign o body s)) := by
  subst ho
  have hacted : actDesign (bodyFrame kindDesign h body) s =
      { frame := stampSlot n (judgeDesign body s) false (applyDesign (judgeDesign body s) body s)
          (bodyFrame kindDesign h body),
        state := applyDesign (judgeDesign body s) body s } := by
    simp only [actDesign, hn]
    rfl
  have hexec : exec (.designFrame h body) s = .next (keepActed (actDesign (bodyFrame kindDesign h body) s)) := rfl
  rw [hexec, hacted]
  rfl

theorem judgeDesign_row {body : List Byte} {row : DesignRow} {s : State} (hn : s.control.node ≠ .init) (hl : s.load = none)
    (hd : decodeDesign body = some row) (hshape : Shaped row s.tables.width) : judgeDesign body s = judgeRow row s := by
  rw [judgeDesign, if_neg hn, if_neg (by rw [hl]; exact fun h => h rfl), hd]
  exact if_pos ((rowOk_iff _ _).mpr hshape)

theorem judgeDesign_rowLength {body : List Byte} {s : State} (hn : s.control.node ≠ .init) (hl : s.load = none)
    (h : ∀ row, decodeDesign body = some row → ¬Shaped row s.tables.width) : judgeDesign body s = .rowLength := by
  rw [judgeDesign, if_neg hn, if_neg (by rw [hl]; exact fun h => h rfl)]
  cases hd : decodeDesign body with
  | none => rfl
  | some row => exact if_neg (mt (rowOk_iff _ _).mp (h row hd))

section
variable {row : DesignRow} {s : State} (hrep : s.admission.lastAccepted ≠ some row.pick)
include hrep

theorem judgeRow_sequence (h : row.pick ≠ s.admission.expected) : judgeRow row s = .sequence := by
  rw [judgeRow, if_neg hrep, if_pos h]

variable (hseq : row.pick = s.admission.expected)
include hseq

theorem judgeRow_tableInvalid (h : tieReady s.tables = false) : judgeRow row s = .tableInvalid := by
  rw [judgeRow, if_neg hrep, if_neg (not_not.mpr hseq), if_pos h]

variable (htie : tieReady s.tables = true)
include htie

theorem judgeRow_codeUnmapped (h : ∃ r ∈ row.runs, codeReady s.tables r.code = false) :
    judgeRow row s = .codeUnmapped := by
  rw [judgeRow, if_neg hrep, if_neg (not_not.mpr hseq), if_neg (by rw [htie]; decide), if_pos]
  simpa only [List.all_eq_false, Bool.not_eq_true] using h

variable (hcodes : ∀ r ∈ row.runs, codeReady s.tables r.code = true)
include hcodes

theorem judgeRow_last :
    judgeRow row s =
      if feederAt s.tables row.colour = none then .weftUnmapped
      else if queueFree s < row.count ∨ Config.backlogSize ≤ s.engine.backlog.length then .overrun
      else .accepted := by
  rw [judgeRow, if_neg hrep, if_neg (not_not.mpr hseq), if_neg (by rw [htie]; decide),
    if_neg (by rw [List.all_eq_true.mpr hcodes]; decide)]

end

/-- Settles O24: readiness entry by entry, then the first check that fails. -/
theorem designRowRefused : Obligations.DesignRowRefused := by
  unfold Obligations.DesignRowRefused
  refine ⟨fun t => ⟨tieReady_iff t, codeReady_iff t, feederAt_iff t⟩, fun h body s => ⟨fun hn => ?_, fun n hn => ?_⟩⟩
  · have hexec : exec (.designFrame h body) s = .next (keepActed (actDesign (bodyFrame kindDesign h body) s)) := rfl
    rw [hexec]
    simp only [actDesign, hn]
    rfl
  · intro refused t
    refine ⟨fun hi => exec_design hn h (if_pos hi), fun hi hl => exec_design hn h ?_, fun hi hl => ⟨fun hd => ?_, fun row hd => ?_⟩⟩
    · rw [judgeDesign, if_neg hi, if_pos hl]
    · exact exec_design hn h (judgeDesign_rowLength hi hl fun row hrow => by rw [hd] at hrow; cases hrow)
    · intro shaped
      refine ⟨fun hshape => exec_design hn h (judgeDesign_rowLength hi hl fun row' hrow => ?_), fun hshape hrep => ?_,
        fun hshape hrep => ⟨fun hseq => ?_, fun hseq => ⟨fun htie => ?_, fun htie => ⟨fun hcodes => ?_, fun hcodes =>
          ⟨fun hfeeder => ?_, fun hfeeder hfull hqueue => ?_⟩⟩⟩⟩⟩
      · obtain rfl : row = row' := Option.some.inj (hd.symm.trans hrow)
        exact hshape
      · exact exec_design hn h ((judgeDesign_row hi hl hd hshape).trans (if_pos hrep))
      · exact exec_design hn h ((judgeDesign_row hi hl hd hshape).trans (judgeRow_sequence hrep hseq))
      · exact exec_design hn h ((judgeDesign_row hi hl hd hshape).trans (judgeRow_tableInvalid hrep hseq htie))
      · exact exec_design hn h ((judgeDesign_row hi hl hd hshape).trans (judgeRow_codeUnmapped hrep hseq htie hcodes))
      · refine exec_design hn h ((judgeDesign_row hi hl hd hshape).trans ((judgeRow_last hrep hseq htie hcodes).trans ?_))
        exact if_pos hfeeder
      · refine exec_design hn h ((judgeDesign_row hi hl hd hshape).trans ((judgeRow_last hrep hseq htie hcodes).trans ?_))
        rw [if_neg hfeeder]
        refine if_pos ?_
        simp only [queueFree, Config.queueSize, Config.backlogSize]
        omega

/-! ## Acceptance (R20-R25, R178) -/

theorem judgeRow_accepted {row : DesignRow} {s : State} {feeder : Nat} (hrep : s.admission.lastAccepted ≠ some row.pick)
    (hseq : row.pick = s.admission.expected) (htie : tieReady s.tables = true)
    (hcodes : ∀ r ∈ row.runs, codeReady s.tables r.code = true) (hfeeder : feederAt s.tables row.colour = some feeder)
    (hqueue : s.store.queue.length + row.count ≤ 8) (hbacklog : s.engine.backlog.length < 2) :
    judgeRow row s = .accepted := by
  rw [judgeRow_last hrep hseq htie hcodes, if_neg (by rw [hfeeder]; exact Option.some_ne_none _), if_neg]
  simp only [queueFree, Config.queueSize, Config.backlogSize]
  omega

/-- With no hook installed a record has no lift and no mark when it turns READY (R25). -/
def bareRecord (r : LiftRecord) : LiftRecord := finishRecord [] false r

theorem recordDone_bare {before after : List LiftRecord} {r : LiftRecord} {row : BacklogRow} {s : State}
    (hnone : installed s = 0) (hb : ∀ x ∈ before, x.state = .ready) (hr : r.state = .expanding)
    (hq : s.store.queue = before ++ r :: after) (hrow : s.engine.backlog = [row]) :
    recordDone s =
      (s.setStore { s.store with queue := before ++ bareRecord r :: after }).setEngine
        { s.engine with backlog := advanceBacklog [row], settled := [] } := by
  have hlifts : recordLifts s row r = [] := by rw [recordLifts, hnone]; rfl
  have hmark : recordMark s row = false := by rw [recordMark, hnone]; rfl
  rw [recordDone_eq hq hb hr hrow, completeRecord, hlifts, hmark, hq, updateUnderWork_append _ before after r hb hr]
  simp only [nextRecord, setStore_engine, hrow, Bool.false_eq_true, if_false]
  rfl

/-- With no hook installed the records of a row turn READY one after another until the row is done (R25). -/
theorem recordsDone_bare (rs : List LiftRecord) :
    ∀ {before : List LiftRecord} {row : BacklogRow} {s : State}, installed s = 0 → (∀ x ∈ before, x.state = .ready) →
      (∀ x ∈ rs, x.state = .expanding) → s.store.queue = before ++ rs → s.engine.backlog = [row] → rs ≠ [] →
      row.done + rs.length = row.count →
      recordsDone rs.length s =
        (s.setStore { s.store with queue := before ++ rs.map bareRecord }).setEngine
          { s.engine with backlog := [], settled := [] } := by
  induction rs with
  | nil => exact fun _ _ _ _ _ hne _ => absurd rfl hne
  | cons r rs ih =>
    intro before row s hnone hb hrs hq hrow _ hcount
    obtain ⟨hr, hrs⟩ := List.forall_mem_cons.mp hrs
    rw [List.length_cons] at hcount
    have hstep := recordDone_bare hnone hb hr hq hrow
    by_cases hlast : rs = []
    · subst hlast
      rw [advanceBacklog, if_pos (by rw [← hcount]; exact le_rfl)] at hstep
      exact hstep
    · have hpos := List.length_pos_of_ne_nil hlast
      rw [advanceBacklog, if_neg (by omega)] at hstep
      have hrest := ih (s := recordDone s) (before := before ++ [bareRecord r]) (row := { row with done := row.done + 1 })
        (by rw [hstep]; exact hnone) (List.forall_mem_append.mpr ⟨hb, List.forall_mem_singleton.mpr rfl⟩) hrs
        (by rw [hstep, List.append_assoc]; rfl) (by rw [hstep]; rfl) hlast (by simp only; omega)
      rw [List.length_cons, recordsDone, hrest, hstep, List.append_assoc]
      rfl

/-- The records of an accepted row as they join the queue: READY at once with no hook installed (R20, R25). -/
def joinedRecords (row : DesignRow) (feeder : Nat) (s : State) : List LiftRecord :=
  ((List.range row.count).map (newRecord s row feeder)).map (if installed s = 0 then bareRecord else id)

theorem joinedRecords_getElem {row : DesignRow} {feeder : Nat} {s : State} (j : Fin (joinedRecords row feeder s).length) :
    (joinedRecords row feeder s)[j] = (if installed s = 0 then bareRecord else id) (newRecord s row feeder j) := by
  have hentry : (joinedRecords row feeder s)[j] = _ := List.getElem_map _
  rw [hentry, List.getElem_map, List.getElem_range]

/-- Acceptance of a row: all that it changes (R20, R21, R23, R25, R178). -/
theorem acceptRow_eq {row : DesignRow} {feeder : Nat} {s : State} (hfeeder : feederAt s.tables row.colour = some feeder)
    (hcount : 1 ≤ row.count) (hwork : WorkLaw s) :
    acceptRow row s =
      ((s.setStore { s.store with queue := s.store.queue ++ joinedRecords row feeder s }).setEngine
          { rowCounters := Vector.ofFn fun i => advanceCounter s.tables.weaves[i] s.engine.rowCounters[i] row.count,
            backlog := if installed s = 0 then s.engine.backlog else s.engine.backlog ++ [newBacklogRow s row],
            settled := if installed s = 0 then [] else s.engine.settled }).setAdmission
        { lastAccepted := some row.pick, expected := (row.pick + 1) % 65536 } := by
  have hstart : acceptRow row s = startEngine row.count (reserveRow row feeder s) := by rw [acceptRow, hfeeder]; rfl
  have hinstalled : installed (reserveRow row feeder s) = installed s := rfl
  rw [hstart, startEngine, hinstalled, joinedRecords]
  by_cases hnone : installed s = 0
  · obtain ⟨-, hempty, -, hexpanding⟩ := hwork
    have hbacklog : s.engine.backlog = [] := hempty hnone
    have hready : ∀ x ∈ s.store.queue, x.state = .ready := by
      rw [hbacklog, List.map_nil, List.sum_nil, List.length_eq_zero_iff, List.filter_eq_nil_iff] at hexpanding
      intro x hx
      have hx := hexpanding x hx
      cases hstate : x.state
      · exact absurd (by rw [hstate]; rfl) hx
      · rfl
    have hlen : ((List.range row.count).map (newRecord s row feeder)).length = row.count := by
      rw [List.length_map, List.length_range]
    have hdone := recordsDone_bare ((List.range row.count).map (newRecord s row feeder)) (s := reserveRow row feeder s)
      (before := s.store.queue) (row := newBacklogRow s row) hnone hready
      (fun x hx => by obtain ⟨j, -, rfl⟩ := List.mem_map.mp hx; rfl) rfl
      (by rw [reserveRow, hbacklog]; rfl) (List.ne_nil_of_length_pos (by omega))
      (by rw [hlen]; exact Nat.zero_add _)
    rw [hlen] at hdone
    rw [if_pos hnone, hdone, if_pos hnone, if_pos hnone, if_pos hnone, hbacklog]
    simp only [reserveRow, State.setStore, State.setEngine, State.setAdmission]
  · rw [if_neg hnone, if_neg hnone, if_neg hnone, if_neg hnone, List.map_id]
    simp only [reserveRow]

/-- Settles O23: the bytes read in place, then the row taken in whole. -/
theorem designRowAccepted : Obligations.DesignRowAccepted := by
  unfold Obligations.DesignRowAccepted
  constructor
  · intro body b count
    rw [decodeDesign_eq]
    refine ⟨fun h => if_neg h, fun h => (if_pos h).trans ?_⟩
    have hrun : runAt (body.drop 6) = fun i =>
        { code := b (6 + 3 * i), length := b (7 + 3 * i) * 256 + b (8 + 3 * i) } := by
      funext i
      simp only [runAt, List.getD_eq_getElem?_getD, List.getElem?_drop, b, show 6 + (3 * i + 1) = 7 + 3 * i by omega,
        show 6 + (3 * i + 2) = 8 + 3 * i by omega]
    rw [hrun]
  · intro h body row n feeder s hn hi hl hd hc1 hc8 hr1 hr512 hruns hsum hwidth hrep hseq htie hcodes hfeeder hqueue
      hbacklog hwork
    have hjudge : judgeDesign body s = .accepted :=
      (judgeDesign_row hi hl hd ⟨hc1, hc8, hr1, hr512, hruns, hwidth, hsum⟩).trans
        (judgeRow_accepted hrep hseq.symm htie hcodes hfeeder hqueue hbacklog)
    have happly : applyDesign .accepted body s = acceptRow row s := by simp only [applyDesign, hd]
    have hexec := exec_design hn h hjudge
    rw [happly, acceptRow_eq hfeeder hc1 hwork] at hexec
    generalize (row.pick + 1) % 65536 = next at hexec ⊢
    refine ⟨_, hexec, ⟨joinedRecords row feeder s, ?_, ?_, fun j => ?_⟩, fun i => ?_, ?_⟩
    · rw [joinedRecords, List.length_map, List.length_map, List.length_range]
    · simp
    · rw [joinedRecords_getElem]
      have hsnapshot : ∀ i : Fin 16, (rowSnapshot s j)[i] =
          (loadedGeometry s.tables.weaves[i]).map fun g => (s.engine.rowCounters[i] + j) % g.h :=
        fun i => Vector.getElem_ofFn _
      by_cases hnone : installed s = 0
      · rw [if_pos hnone, if_pos hnone]
        refine ⟨rfl, rfl, rfl, rfl, rfl, fun i => (hsnapshot i).trans ?_⟩
        cases s.tables.weaves[i] <;> rfl
      · rw [if_neg hnone, if_neg hnone]
        refine ⟨rfl, rfl, rfl, rfl, rfl, fun i => (hsnapshot i).trans ?_⟩
        cases s.tables.weaves[i] <;> rfl
    · have hcounter : (Vector.ofFn fun i : Fin 16 =>
          advanceCounter s.tables.weaves[i] s.engine.rowCounters[i] row.count)[i] =
            advanceCounter s.tables.weaves[i] s.engine.rowCounters[i] row.count := Vector.getElem_ofFn _
      refine hcounter.trans ?_
      unfold advanceCounter
      cases s.tables.weaves[i] <;> rfl
    · simp [newBacklogRow]

end Sys2Proof.Proofs.DesignRows

/-! PROOFS. The rows of the encoder that are no index pass: the step, the crossings, the pick events, and the loss of the
index (R43-R50, R59, R60, R64, R70-R79, R83-R92). -/

namespace Sys2Proof.Proofs.EncoderRows

open Sys2Proof Sys2Proof.Machine

/-! ## Angles (R71, R83) -/

theorem reversePoint_eq {t : Tracker} (h : TrackerLaw t) : reversePoint t = (boundary t + 1024 - t.margin) % 1024 := by
  obtain ⟨-, -, -, -, -, -, -, -, -, -, -, ⟨-, hmargin⟩, -⟩ := h
  simp only [reversePoint, angleSub]
  omega

theorem eventAngle_eq (t : Tracker) (d : Nat) : eventAngle t d = (t.selectAngle + d) % 1024 := rfl

theorem antipode_eq (t : Tracker) : antipode t = (boundary t + 512) % 1024 := rfl

theorem boundary_lt (t : Tracker) : boundary t < 1024 := by
  simp only [boundary, angleSub]
  omega

theorem boundary_ne_antipode (t : Tracker) : boundary t ≠ antipode t := by
  have hlt := boundary_lt t
  rw [antipode_eq]
  omega

theorem reversePoint_ne_antipode {t : Tracker} (h : TrackerLaw t) : reversePoint t ≠ antipode t := by
  have hlt := boundary_lt t
  have hmargin : 4 ≤ t.margin ∧ t.margin ≤ 64 := by
    obtain ⟨-, -, -, -, -, -, -, -, -, -, -, hmargin, -⟩ := h
    exact hmargin
  rw [reversePoint_eq h, antipode_eq]
  omega

/-- A pick event's angle lies 32 to 991 counts after the boundary, so never on it (R70, R83). -/
theorem eventAngle_ne_boundary {t : Tracker} (h : TrackerLaw t) {d : Nat} (hlow : 32 ≤ d) (hhigh : d ≤ 736) :
    eventAngle t d ≠ boundary t := by
  have happlied : t.applied ≤ 255 := by
    obtain ⟨-, -, -, -, -, -, -, -, happlied, -⟩ := h
    exact happlied
  rw [eventAngle_eq, boundary_eq h]
  omega

/-- No pick event stands on the boundary, whatever is armed. -/
theorem no_event_on_boundary {t u : Tracker} (h : TrackerLaw t) (hselect : u.selectAngle = t.selectAngle)
    (hfeeder : u.feederDist = t.feederDist) (hopen : u.openDist = t.openDist) (hclose : u.closeDist = t.closeDist) :
    ¬eventAt u (boundary t) := by
  obtain ⟨-, -, -, -, -, -, -, -, -, -, -, -, ⟨hf1, hf2⟩, ho1, hoc, hc2⟩ := id h
  have hangle : ∀ d, eventAngle u d = eventAngle t d := fun d => by rw [eventAngle_eq, eventAngle_eq, hselect]
  rintro (⟨-, hat⟩ | ⟨-, hat⟩ | ⟨-, hat⟩)
  · rw [hangle, hfeeder] at hat
    exact eventAngle_ne_boundary h hf1 hf2 hat.symm
  · rw [hangle, hopen] at hat
    exact eventAngle_ne_boundary h ho1 (by omega) hat.symm
  · rw [hangle, hclose] at hat
    exact eventAngle_ne_boundary h (by omega) hc2 hat.symm

theorem offerEvents_on_boundary {t : Tracker} {u : State} (h : TrackerLaw t) (hcounter : u.tracker.counter = boundary t)
    (hselect : u.tracker.selectAngle = t.selectAngle) (hfeeder : u.tracker.feederDist = t.feederDist)
    (hopen : u.tracker.openDist = t.openDist) (hclose : u.tracker.closeDist = t.closeDist) : offerEvents u = u := by
  refine offerEvents_none ?_
  rw [hcounter]
  exact no_event_on_boundary h hselect hfeeder hopen hclose

/-! ## The step -/

theorem exec_encoderStep (a b z : Bool) (s : State) : exec (.encoderStep a b z) s = .next (encoderLines a b z s) := rfl

theorem followStep_valid_net (d : Direction) (a b : Bool) {s : State} (hv : s.tracker.angleValid = true) :
    (followStep d (stepped d a b false s)).tracker.angleValid = true ∧
      (followStep d (stepped d a b false s)).tracker.net = s.tracker.net := by
  obtain ⟨-, -, -, hvalid, hnet, -⟩ := (followStep_course d (stepped d a b false s)).fields
  exact ⟨hvalid.trans hv, hnet⟩

section
variable {d : Direction} {a b : Bool} {s : State} (hq : quadratureStep s.tracker.lines a b = some d)
include hq

/-- A step without index while the angle is not valid (R64). -/
theorem exec_invalid (hv : s.tracker.angleValid = false) :
    exec (.encoderStep a b false) s =
      .next (s.setTracker
        { noteReverse d { s.tracker with lines := ⟨a, b, false⟩, counter := countStep d s.tracker.counter, direction := d }
          with net := 0 }) := by
  have hnot : ¬s.tracker.angleValid = true := by rw [hv]; exact Bool.false_ne_true
  rw [exec_encoderStep, encoderLines_step false hq, if_neg hnot, if_neg Bool.false_ne_true,
    plainStep_invalid (show (stepped d a b false s).tracker.angleValid = false from hv)]
  rfl

variable (hv : s.tracker.angleValid = true)
include hv

/-- A step without index while the angle is valid: the boundary tracker and the pick events, then the net step count. -/
theorem exec_valid :
    exec (.encoderStep a b false) s = .next (plainStep d (followStep d (stepped d a b false s))) := by
  rw [exec_encoderStep, encoderLines_step false hq, if_pos hv, if_neg Bool.false_ne_true]

theorem exec_counted {u : State} (hu : followStep d (stepped d a b false s) = u)
    (hn : (netAfter d s.tracker.net).natAbs < 1100) :
    exec (.encoderStep a b false) s =
      .next (u.setTracker { noteReverse d u.tracker with net := netAfter d s.tracker.net }) := by
  obtain ⟨hvalid, hnet⟩ := followStep_valid_net d a b hv
  rw [hu] at hvalid hnet
  rw [exec_valid hq hv, hu, plainStep_counts hvalid (by rw [hnet]; exact hn), hnet]

theorem exec_loses {u : State} (hu : followStep d (stepped d a b false s) = u)
    (hn : 1100 ≤ (netAfter d s.tracker.net).natAbs) :
    exec (.encoderStep a b false) s = .next (loseIndex (u.setTracker (noteReverse d u.tracker))) := by
  obtain ⟨hvalid, hnet⟩ := followStep_valid_net d a b hv
  rw [hu] at hvalid hnet
  rw [exec_valid hq hv, hu, plainStep_loses hvalid (by rw [hnet]; exact hn)]

end

/-! ## A step that is no crossing (R73-R75) -/

/-- The tracker after a step onto an angle that is not the crossing angle, before the net step count. -/
def offTracker (d : Direction) (a b : Bool) (t : Tracker) : Tracker :=
  { t with
    lines := ⟨a, b, false⟩, counter := countStep d t.counter, direction := d,
    antipodeFlag := if countStep d t.counter = (boundary t + 512) % 1024 then true else t.antipodeFlag }

theorem offTracker_reverse (a b : Bool) (t : Tracker) :
    offTracker .reverse a b t =
      { t with
        lines := ⟨a, b, false⟩, counter := prevCount t, direction := .reverse,
        antipodeFlag := if prevCount t = (boundary t + 512) % 1024 then true else t.antipodeFlag } := by
  rw [offTracker, countStep_reverse]

theorem examineStep_stepped_off {d : Direction} {a b : Bool} {s : State}
    (h : countStep d s.tracker.counter ≠ crossingAngle d s.tracker) :
    examineStep d (stepped d a b false s) = s.setTracker (offTracker d a b s.tracker) := by
  have hangle : (stepped d a b false s).tracker.counter ≠ crossingAngle d (stepped d a b false s).tracker := by
    cases d <;> exact h
  rw [examineStep_off hangle, noteAntipode_fields]
  rfl

theorem followStep_forward_off {a b : Bool} {s : State} (h : nextCount s.tracker ≠ boundary s.tracker)
    (hevent : ¬eventAt s.tracker (nextCount s.tracker)) :
    followStep .forward (stepped .forward a b false s) = s.setTracker (offTracker .forward a b s.tracker) := by
  rw [followStep_forward, examineStep_stepped_off (d := .forward) h]
  exact offerEvents_none hevent

theorem followStep_reverse_off {a b : Bool} {s : State} (h : prevCount s.tracker ≠ reversePoint s.tracker) :
    followStep .reverse (stepped .reverse a b false s) = s.setTracker (offTracker .reverse a b s.tracker) := by
  rw [followStep_reverse]
  exact examineStep_stepped_off (by rw [countStep_reverse]; exact h)

theorem followStep_forward_notDue {a b : Bool} {s : State} (hlaw : TrackerLaw s.tracker)
    (h : nextCount s.tracker = boundary s.tracker) (hd : ¬crossingDue .forward s.tracker) :
    followStep .forward (stepped .forward a b false s) = stepped .forward a b false s := by
  have hcounter : (stepped .forward a b false s).tracker.counter = boundary s.tracker := h
  have hnot : (stepped .forward a b false s).tracker.counter ≠ antipode (stepped .forward a b false s).tracker := by
    rw [hcounter]
    exact boundary_ne_antipode s.tracker
  rw [followStep_forward, examineStep_notDue hnot hd]
  exact offerEvents_on_boundary hlaw hcounter rfl rfl rfl rfl

theorem followStep_reverse_notDue {a b : Bool} {s : State} (hlaw : TrackerLaw s.tracker)
    (h : prevCount s.tracker = reversePoint s.tracker) (hd : ¬crossingDue .reverse s.tracker) :
    followStep .reverse (stepped .reverse a b false s) = stepped .reverse a b false s := by
  have hcounter : (stepped .reverse a b false s).tracker.counter = reversePoint s.tracker :=
    (countStep_reverse _).trans h
  refine examineStep_notDue ?_ hd
  rw [hcounter]
  exact reversePoint_ne_antipode hlaw

theorem not_crossingDue {d : Direction} {t : Tracker} (hlast : t.last = d) (hflag : t.antipodeFlag = false) :
    ¬crossingDue d t := by
  rintro (h | h)
  · exact h hlast
  · exact Bool.false_ne_true (hflag.symm.trans h)

/-- Settles O6: the angles, then each kind of step that meets nothing. -/
theorem plainEncoderSteps : Obligations.PlainEncoderSteps := by
  unfold Obligations.PlainEncoderSteps
  refine ⟨fun t h => ⟨boundary_eq h, reversePoint_eq h, fun _ => rfl⟩,
    fun a b z s => ⟨fun hl => ?_, fun ⟨hv, hz, hl⟩ => ?_, fun ⟨hv, hz, hl⟩ => ?_⟩,
    fun a b s hv => ⟨fun hl hoff hevent hn => ?_, fun hl hoff hn => ?_⟩,
    fun a b s hlaw hv => ⟨fun hl hon hlast hflag hn => ?_, fun hl hon hlast hflag hn => ?_⟩⟩
  · rw [exec_encoderStep]
    simp only [encoderLines, quadratureStep_none hl]
  · rw [hz, exec_invalid (quadratureStep_forward hl) hv]
    rfl
  · rw [hz, exec_invalid (quadratureStep_reverse hl) hv, countStep_reverse]
    rfl
  · rw [exec_counted (quadratureStep_forward hl) hv (followStep_forward_off hoff hevent) hn]
    rfl
  · rw [exec_counted (quadratureStep_reverse hl) hv (followStep_reverse_off hoff) hn]
    rw [offTracker_reverse]
    simp only [setTracker_setTracker, setTracker_tracker, noteReverse, netAfter]
  · rw [exec_counted (quadratureStep_forward hl) hv (followStep_forward_notDue hlaw hon (not_crossingDue hlast hflag)) hn,
      ← hon]
    rfl
  · rw [exec_counted (quadratureStep_reverse hl) hv (followStep_reverse_notDue hlaw hon (not_crossingDue hlast hflag)) hn,
      ← hon]
    simp only [stepped, setTracker_setTracker, setTracker_tracker, countStep_reverse]
    rfl

/-! ## Crossings (R43-R50, R70, R74, R75, R78, R79, R85) -/

/-- The tracker with LAST and the antipode flag marked at a crossing. -/
def markedTracker (d : Direction) (a b : Bool) (t : Tracker) : Tracker :=
  { t with
    lines := ⟨a, b, false⟩, counter := crossingAngle d t, direction := d, last := d, antipodeFlag := false }

theorem examineStep_stepped_crosses {d : Direction} {a b : Bool} {s : State}
    (hon : countStep d s.tracker.counter = crossingAngle d s.tracker) (hd : crossingDue d s.tracker) :
    examineStep d (stepped d a b false s) =
      moveAdvance d (crossingEffects d (s.setTracker (markedTracker d a b s.tracker))) := by
  have hcounter : (stepped d a b false s).tracker.counter = crossingAngle d (stepped d a b false s).tracker := by
    cases d <;> exact hon
  rw [examineStep_crosses hcounter hd, takeCrossing]
  cases d
  · rw [marked_forward hon]
    rfl
  · rw [marked_reverse ((countStep_reverse _).symm.trans hon)]
    rfl

theorem crossingEffects_idle {d : Direction} {x : Tracker} {s : State} (h : weaving s = false) :
    crossingEffects d (s.setTracker x) = s.setTracker x :=
  if_neg fun hw => Bool.false_ne_true (h.symm.trans hw)

/-- Settles O9: outside RUN and HALT a crossing has no effect but on the tracker. -/
theorem crossingOutsideWeaving : Obligations.CrossingOutsideWeaving := by
  unfold Obligations.CrossingOutsideWeaving
  refine fun a b s hw harmed hv => ⟨fun hl hon hd hn => ?_, fun hl hon hd hn => ?_⟩
  · have hfollow : followStep .forward (stepped .forward a b false s) =
        moveAdvance .forward (s.setTracker (markedTracker .forward a b s.tracker)) := by
      rw [followStep_forward, examineStep_stepped_crosses (d := .forward) hon hd, crossingEffects_idle hw]
      refine offerEvents_none ?_
      rintro (⟨h, -⟩ | ⟨h, -⟩ | ⟨h, -⟩)
      · exact harmed (.inl h)
      · exact harmed (.inr (.inl h))
      · exact harmed (.inr (.inr h))
    rw [exec_counted (quadratureStep_forward hl) hv hfollow hn]
    rfl
  · have hfollow : followStep .reverse (stepped .reverse a b false s) =
        moveAdvance .reverse (s.setTracker (markedTracker .reverse a b s.tracker)) := by
      rw [followStep_reverse, examineStep_stepped_crosses ((countStep_reverse _).trans hon) hd,
        crossingEffects_idle hw]
    rw [exec_counted (quadratureStep_reverse hl) hv hfollow hn]
    rfl

/-- What a forward crossing drives in RUN and HALT, the pick events armed. -/
theorem crossingEffects_forward {x : Tracker} {s : State} (hw : weaving s = true) (hlen : s.store.history.length ≤ 16) :
    crossingEffects .forward (s.setTracker x) =
      (((s.setControl
            (raiseAll ((if isStarved s.store then [.starved] else []) ++ requestEvents s.selector) s).control).setStore
          (storeAfterForward s)).setSelector (requested s.selector (patternShift (storeAfterForward s) s))).setTracker
        { x with armed := ⟨true, true, true⟩ } := by
  have hdriven : crossingEffects .forward (s.setTracker x) = armEvents (storeForward (s.setTracker x)) := if_pos hw
  rw [hdriven, storeForward_eq (s := s.setTracker x) hlen, crossing_store,
    raiseAll_control_congr _ (setTracker_control s x)]
  rfl

/-- What a reverse crossing drives in RUN and HALT, the pick events disarmed and the window closed. -/
theorem crossingEffects_reverse {x : Tracker} {s : State} (hw : weaving s = true) :
    crossingEffects .reverse (s.setTracker x) =
      ((((s.setControl
              (raiseAll ((if isRewindLimit s.store then [.rewindLimit] else []) ++ requestEvents s.selector)
                s).control).setStore
            (storeAfterReverse s.store)).setSelector
          (requested s.selector (patternShift (storeAfterReverse s.store) s))).setTracker
        { x with armed := ⟨false, false, false⟩ }).setWeft { s.weft with window := false, mark := false } := by
  have hdriven : crossingEffects .reverse (s.setTracker x) = closeWindow (disarmEvents (storeReverse (s.setTracker x))) :=
    if_pos hw
  rw [hdriven, storeReverse_eq, crossing_store, raiseAll_control_congr _ (setTracker_control s x)]
  rfl

/-- The state of `s` after a forward crossing in RUN or HALT, before the net step count. -/
def crossedForward (a b : Bool) (s : State) : State :=
  (((s.setControl
          (raiseAll ((if isStarved s.store then [.starved] else []) ++ requestEvents s.selector) s).control).setStore
        (storeAfterForward s)).setSelector (requested s.selector (patternShift (storeAfterForward s) s))).setTracker
    { markedTracker .forward a b s.tracker with
      armed := ⟨true, true, true⟩, applied := slew s.tracker.applied s.tracker.target }

/-- The state of `s` after a reverse crossing in RUN or HALT, before the net step count. -/
def crossedReverse (a b : Bool) (s : State) : State :=
  ((((s.setControl
            (raiseAll ((if isRewindLimit s.store then [.rewindLimit] else []) ++ requestEvents s.selector)
              s).control).setStore
          (storeAfterReverse s.store)).setSelector
        (requested s.selector (patternShift (storeAfterReverse s.store) s))).setWeft
      { s.weft with window := false, mark := false }).setTracker
    { markedTracker .reverse a b s.tracker with armed := ⟨false, false, false⟩, applied := 0 }

theorem followStep_forward_crosses {a b : Bool} {s : State} (hw : weaving s = true) (hlaw : TrackerLaw s.tracker)
    (hlen : s.store.history.length ≤ 16) (hon : nextCount s.tracker = boundary s.tracker)
    (hd : crossingDue .forward s.tracker) :
    followStep .forward (stepped .forward a b false s) = crossedForward a b s := by
  rw [followStep_forward, examineStep_stepped_crosses (d := .forward) hon hd, crossingEffects_forward hw hlen]
  exact offerEvents_on_boundary (u := crossedForward a b s) hlaw rfl rfl rfl rfl rfl

theorem followStep_reverse_crosses {a b : Bool} {s : State} (hw : weaving s = true)
    (hon : prevCount s.tracker = reversePoint s.tracker) (hd : crossingDue .reverse s.tracker) :
    followStep .reverse (stepped .reverse a b false s) = crossedReverse a b s := by
  rw [followStep_reverse, examineStep_stepped_crosses (d := .reverse) ((countStep_reverse _).trans hon) hd,
    crossingEffects_reverse hw]
  rfl

/-- Settles O7: the store, the request and the arming of a forward crossing; no pick event stands on the boundary. -/
theorem forwardCrossingWeaves : Obligations.ForwardCrossingWeaves := by
  unfold Obligations.ForwardCrossingWeaves
  intro a b s hw hlaw hstore hv hl hon hd hn
  obtain ⟨hlen, -⟩ := hstore
  have hfollow := followStep_forward_crosses (a := a) (b := b) hw hlaw hlen hon hd
  refine ⟨_, exec_counted (quadratureStep_forward hl) hv hfollow hn, rfl, rfl, rfl, ?_⟩
  simp [crossedForward]

/-- Settles O8: what an entry presents, then the store, the request and the disarming of a reverse crossing. -/
theorem reverseCrossingRewinds : Obligations.ReverseCrossingRewinds := by
  unfold Obligations.ReverseCrossingRewinds
  refine ⟨fun p => ⟨fun before after e hp hlen => ?_, fun hp => ?_⟩, fun a b s hw hv hl hon hd hn => ?_⟩
  · have hentry := presentedEntry_behind hp hlen
    refine ⟨hentry, ?_, ?_, fun h => ?_⟩
    · simp [presentedSource, hentry]
    · simp [presentedFeeder, hentry]
    · simp [presentedLift, hentry]
  · have hentry := presentedEntry_blank hp
    refine ⟨hentry, ?_, ?_, fun h => ?_⟩
    · simp [presentedSource, hentry]
    · simp [presentedFeeder, hentry]
    · simp [presentedLift, hentry]
  · have hfollow := followStep_reverse_crosses (a := a) (b := b) hw hon hd
    refine ⟨_, exec_counted (quadratureStep_reverse hl) hv hfollow hn, rfl, rfl, rfl, rfl, ?_⟩
    simp [crossedReverse]

/-! ## The pick events fire (R83, R87, R89, R91) -/

theorem openAngle_ne_closeAngle {t : Tracker} (h : TrackerLaw t) : eventAngle t t.openDist ≠ eventAngle t t.closeDist := by
  obtain ⟨-, -, -, -, -, -, -, -, -, -, -, -, -, -, hlt, hle⟩ := h
  rw [eventAngle_eq, eventAngle_eq]
  omega

/-- Settles O10: the three events offered a step that is onto no boundary. -/
theorem pickEventsFire : Obligations.PickEventsFire := by
  unfold Obligations.PickEventsFire
  intro a b s hlaw hv hl hoff hn c feeder opens closes
  have hangles := openAngle_ne_closeAngle hlaw
  have hoffered : followStep .forward (stepped .forward a b false s) =
      offerEvents (s.setTracker (offTracker .forward a b s.tracker)) := by
    rw [followStep_forward, examineStep_stepped_off (d := .forward) hoff]
  have hfollow := hoffered.trans
    (offerEvents_eq (s.setTracker (offTracker .forward a b s.tracker)) (offTracker .forward a b s.tracker) rfl hangles)
  refine ⟨_, exec_counted (quadratureStep_forward hl) hv hfollow hn, rfl, rfl, fun n => Vector.getElem_ofFn _, ?_⟩
  rw [raise_control_congr _ (setTracker_control s _)]
  refine ⟨rfl, ?_⟩
  simp

/-! ## The loss of the index (R64, R66, R86, R92) -/

/-- The loss of the index, by the tracker it meets. -/
theorem loseIndex_setTracker (x : Tracker) (s : State) :
    loseIndex (s.setTracker x) =
      ((s.setControl (raise .indexLost s).control).setTracker
          { x with angleValid := false, net := 0, armed := ⟨false, false, false⟩ }).setWeft
        { s.weft with window := false, mark := false } := rfl

/-- The step that loses the index where it meets no crossing and no event. -/
theorem exec_loses_off {d : Direction} {a b : Bool} {s : State} (hq : quadratureStep s.tracker.lines a b = some d)
    (hv : s.tracker.angleValid = true)
    (hu : followStep d (stepped d a b false s) = s.setTracker (offTracker d a b s.tracker))
    (hn : 1100 ≤ (netAfter d s.tracker.net).natAbs) :
    exec (.encoderStep a b false) s =
      .next
        (((s.setControl (raise .indexLost s).control).setTracker
            { noteReverse d (offTracker d a b s.tracker) with
              angleValid := false, net := 0, armed := ⟨false, false, false⟩ }).setWeft
          { s.weft with window := false, mark := false }) := by
  rw [exec_loses hq hv hu hn, setTracker_setTracker, loseIndex_setTracker]
  rfl

theorem aside_of_fields {l : Lines} {e : Direction} {s : State} (hl : s.tracker.lines = l) (he : s.tracker.direction = e)
    (n : Int) : aside l e n s = s.setTracker { s.tracker with net := n } := by
  subst hl he
  rfl

/-- A counted step from a net step count of 0 is the same step with another count. -/
theorem followStep_net_zero (d : Direction) (a b : Bool) (s : State) :
    followStep d (stepped d a b false (s.setTracker { s.tracker with net := 0 })) =
      (followStep d (stepped d a b false s)).setTracker
        { (followStep d (stepped d a b false s)).tracker with net := 0 } := by
  obtain ⟨hlines, -, hdirection, -⟩ := (followStep_course d (stepped d a b false s)).fields
  have haside : stepped d a b false (s.setTracker { s.tracker with net := 0 }) =
      aside ⟨a, b, false⟩ d 0 (stepped d a b false s) := rfl
  rw [haside, followStep_aside]
  exact aside_of_fields hlines hdirection 0

/-- On any step the index is lost after all that the step does from a net step count of 0. -/
theorem exec_loses_last {d : Direction} {a b : Bool} {s : State} (hq : quadratureStep s.tracker.lines a b = some d)
    (hv : s.tracker.angleValid = true) (hn : 1100 ≤ (netAfter d s.tracker.net).natAbs) :
    ∃ u,
      exec (.encoderStep a b false) (s.setTracker { s.tracker with net := 0 }) = .next u ∧
        u.tracker.angleValid = true ∧ exec (.encoderStep a b false) s = exec .indexLost u := by
  obtain ⟨hvalid, -⟩ := followStep_valid_net d a b hv
  have hzero := exec_counted (s := s.setTracker { s.tracker with net := 0 }) hq hv (followStep_net_zero d a b s)
    (by cases d <;> exact (show (1 : Nat) < 1100 by decide))
  have hloses := exec_loses (u := followStep d (stepped d a b false s)) hq hv rfl hn
  generalize followStep d (stepped d a b false s) = w at hvalid hzero hloses
  have hrow : ∀ u : State, u.tracker.angleValid = true → exec .indexLost u = .next (loseIndex u) :=
    fun u hu => congrArg Host.Outcome.next (if_pos hu)
  refine ⟨_, hzero, by cases d <;> exact hvalid, ?_⟩
  rw [hloses, hrow]
  · cases d <;> rfl
  · cases d <;> exact hvalid

/-- Settles O14: the plain steps that lose the index, any step that does, and the two arrivals. -/
theorem indexLostAndCaptureExpiry : Obligations.IndexLostAndCaptureExpiry := by
  unfold Obligations.IndexLostAndCaptureExpiry
  refine ⟨fun a b s hv => ⟨fun hl hoff hevent hnet => ?_, fun hl hoff hnet => ?_⟩, fun a b s hv hstep => ?_, fun s => ?_⟩
  · have hn : 1100 ≤ (netAfter .forward s.tracker.net).natAbs := by
      rw [hnet]
      decide
    refine ⟨_, exec_loses_off (quadratureStep_forward hl) hv (followStep_forward_off hoff hevent) hn, rfl, rfl, rfl, ?_⟩
    simp
  · have hn : 1100 ≤ (netAfter .reverse s.tracker.net).natAbs := by
      rw [hnet]
      decide
    refine ⟨_, exec_loses_off (quadratureStep_reverse hl) hv (followStep_reverse_off hoff) hn, ?_, rfl, rfl, ?_⟩
    · rw [offTracker_reverse]
      simp only [setWeft_tracker, setTracker_tracker, noteReverse]
    · simp
  · rcases hstep with ⟨hl, hnet⟩ | ⟨hl, hnet⟩
    · exact exec_loses_last (quadratureStep_forward hl) hv (by rw [hnet]; decide)
    · exact exec_loses_last (quadratureStep_reverse hl) hv (by rw [hnet]; decide)
  · refine ⟨fun hv => congrArg Host.Outcome.next (if_pos hv), fun hv => congrArg Host.Outcome.next (if_neg ?_), rfl⟩
    rw [hv]
    exact Bool.false_ne_true

end Sys2Proof.Proofs.EncoderRows

/-! PROOFS. The index passes of the encoder: the correction of the counter, SLIP, and the measurement of the period
(R60-R69, R77). -/

namespace Sys2Proof.Proofs.IndexRows

open Sys2Proof Sys2Proof.Machine Sys2Proof.Proofs.EncoderRows

/-! ## The capture and the period (R66-R69) -/

theorem interval_eq (c timer : Nat) : interval c timer = (timer + 16777216 - c) % 16777216 := by
  simp only [interval, Config.timerWrap]

theorem nextPeriod_none (m : Nat) : nextPeriod m none = if m < 30000 ∨ 4000000 < m then none else some m := by
  simp only [nextPeriod]

/-- The difference of R68, whichever of the two is the greater. -/
theorem nextPeriod_some (m p : Nat) :
    nextPeriod m (some p) =
      if m < 30000 ∨ 4000000 < m then none else if p / 512 < (m - p) + (p - m) then some m else some p := by
  have hdiff : (if p ≤ m then m - p else p - m) = (m - p) + (p - m) := by
    split <;> omega
  simp only [nextPeriod, hdiff]

theorem dueCapture_none {t : Tracker} (h : t.capture = none ∨ t.lastPass ≠ some .forward ∨ t.reverseSeen = true) :
    dueCapture t = none := by
  unfold dueCapture
  split
  next hdue =>
    obtain ⟨hpass, hseen⟩ := hdue
    rcases h with h | h | h
    · exact h
    · exact absurd hpass h
    · exact absurd (hseen.symm.trans h) Bool.false_ne_true
  next => rfl

theorem dueCapture_some {t : Tracker} {c : Nat} (hc : t.capture = some c) (hpass : t.lastPass = some .forward)
    (hseen : t.reverseSeen = false) : dueCapture t = some c := by
  rw [dueCapture, if_pos ⟨hpass, hseen⟩, hc]

theorem capturePass_forward_of_none {t : Tracker} (h : dueCapture t = none) :
    capturePass .forward t =
      { t with capture := some t.timer, lastPass := some .forward, reverseSeen := false } := by
  simp only [capturePass, measurePeriod, h]

theorem capturePass_forward_of_some {t : Tracker} {c : Nat} (h : dueCapture t = some c) :
    capturePass .forward t =
      { t with
        capture := some t.timer, lastPass := some .forward, reverseSeen := false,
        period := nextPeriod (interval c t.timer) t.period,
        target := targetAdvance t.latency (nextPeriod (interval c t.timer) t.period) } := by
  simp only [capturePass, measurePeriod, h, retarget]

/-- A forward pass moves the capture, the index history, the period and the target, and no more. -/
theorem capturePass_forward (t : Tracker) :
    capturePass .forward t =
      { t with
        capture := some t.timer, lastPass := some .forward, reverseSeen := false,
        period := (capturePass .forward t).period, target := (capturePass .forward t).target } := by
  cases h : dueCapture t with
  | none => rw [capturePass_forward_of_none h]
  | some c => rw [capturePass_forward_of_some h]

theorem capturePass_reverse (t : Tracker) :
    capturePass .reverse t = { t with lastPass := some .reverse, reverseSeen := false } := rfl

/-! ## The deviation and the correction (R61, R62) -/

/-- The counts from the implied value of a pass on to 0. -/
def lead : Direction → Nat
  | .forward => 0
  | .reverse => 1

theorem deviation_eq (d : Direction) {c : Nat} (h : c < 1024) :
    deviation c (impliedCounter d) = if 512 - lead d ≤ c then (c : Int) + lead d - 1024 else c + lead d := by
  have hlead : (impliedCounter d = 0 ∧ lead d = 0) ∨ (impliedCounter d = 1023 ∧ lead d = 1) := by cases d <;> decide
  unfold deviation
  dsimp only
  split <;> split <;> omega

/-- SLIP raised when the deviation is 3 or more either way. -/
def slipped (d : Direction) (s : State) : State :=
  if 3 - lead d ≤ s.tracker.counter ∧ s.tracker.counter ≤ 1021 - lead d then raise .slip s else s

theorem slipped_tracker (d : Direction) (s : State) : (slipped d s).tracker = s.tracker := by
  unfold slipped
  split <;> rfl

theorem slipped_eq (d : Direction) {s : State} (h : s.tracker.counter < 1024) :
    (if 3 ≤ (deviation s.tracker.counter (impliedCounter d)).natAbs then raise .slip s else s) = slipped d s := by
  have hlead : lead d ≤ 1 := by cases d <;> decide
  rw [slipped, deviation_eq d h]
  congr 1
  rw [eq_iff_iff]
  split <;> omega

theorem setCounter_of_eq {c : Nat} {s : State} (h : s.tracker.counter = c) : setCounter c s = s := by
  subst h
  rfl

/-- The judgement of an index pass: SLIP, then the counter brought to its implied value, count by count when it lags. -/
theorem judgeIndex_eq (d : Direction) {s : State} (h : s.tracker.counter < 1024) :
    judgeIndex d s =
      if 512 - lead d ≤ s.tracker.counter then correctForward (1024 - lead d - s.tracker.counter) (slipped d s)
      else setCounter (impliedCounter d) (slipped d s) := by
  have hlead : lead d ≤ 1 := by cases d <;> decide
  have hcounter : (slipped d s).tracker.counter = s.tracker.counter := congrArg Tracker.counter (slipped_tracker d s)
  rw [judgeIndex, slipped_eq d h, correctCounter, deviation_eq d h]
  by_cases hlag : 512 - lead d ≤ s.tracker.counter
  · rw [if_pos hlag, if_pos hlag]
    by_cases hthere : s.tracker.counter + lead d = 1024
    · rw [if_neg (by omega), if_neg (by omega), show 1024 - lead d - s.tracker.counter = 0 by omega]
      rfl
    · rw [if_pos (by omega)]
      congr 1
      omega
  · rw [if_neg hlag, if_neg hlag, if_neg (by omega)]
    by_cases hzero : s.tracker.counter + lead d = 0
    · have hforward : impliedCounter d = 0 := by
        cases d
        · rfl
        · simp [lead] at hzero
      rw [if_neg (by omega), setCounter_of_eq (by omega)]
    · rw [if_pos (by omega)]

/-- The counter stands on its implied value after an index pass, and the rest of the course is kept. -/
theorem judgeIndex_course (d : Direction) {s : State} (h : s.tracker.counter < 1024) :
    SameCourse { s.tracker with counter := impliedCounter d } (judgeIndex d s).tracker := by
  rw [judgeIndex_eq d h]
  split
  next hlag =>
    have hcourse := correctForward_course (1024 - lead d - s.tracker.counter) (slipped d s)
      (by rw [slipped_tracker]; exact h)
    have himplied : (s.tracker.counter + (1024 - lead d - s.tracker.counter)) % 1024 = impliedCounter d := by
      cases d <;> simp only [lead, impliedCounter] <;> omega
    rw [slipped_tracker, himplied] at hcourse
    exact hcourse
  next =>
    rw [setCounter, slipped_tracker]
    exact SameCourse.refl _

/-! ## The pass (R60, R63, R64) -/

/-- The state of an index pass before its capture: judged with a valid angle, revalidated without. -/
def passed (d : Direction) (a b : Bool) (s : State) : State :=
  if s.tracker.angleValid then judgeIndex d (followStep d (stepped d a b true s)) else revalidate d (stepped d a b true s)

theorem exec_pass {d : Direction} {a b : Bool} {s : State} (hq : quadratureStep s.tracker.lines a b = some d) :
    exec (.encoderStep a b true) s =
      .next ((passed d a b s).setTracker (capturePass d { (passed d a b s).tracker with net := 0 })) := by
  have hstep : encoderLines a b true s =
      indexPass d (if s.tracker.angleValid then followStep d (stepped d a b true s) else stepped d a b true s) := by
    rw [encoderLines_step true hq, if_pos rfl]
  rw [exec_encoderStep, hstep, passed]
  cases hv : s.tracker.angleValid with
  | true =>
    have hvalid : (followStep d (stepped d a b true s)).tracker.angleValid = true := by
      obtain ⟨-, -, -, hvalid, -⟩ := (followStep_course d (stepped d a b true s)).fields
      exact hvalid.trans hv
    rw [if_pos rfl, if_pos rfl, indexPass, if_pos hvalid]
  | false =>
    have hinvalid : ¬(stepped d a b true s).tracker.angleValid = true := by
      show ¬s.tracker.angleValid = true
      rw [hv]
      exact Bool.false_ne_true
    rw [if_neg Bool.false_ne_true, if_neg Bool.false_ne_true, indexPass, if_neg hinvalid]

theorem passed_valid (d : Direction) (a b : Bool) {s : State} (hv : s.tracker.angleValid = true) :
    passed d a b s = judgeIndex d (followStep d (stepped d a b true s)) := if_pos hv

theorem passed_invalid (d : Direction) (a b : Bool) {s : State} (hv : s.tracker.angleValid = false) :
    passed d a b s =
      s.setTracker
        { s.tracker with
          lines := ⟨a, b, true⟩, counter := impliedCounter d, direction := d, angleValid := true, last := .forward,
          antipodeFlag := true } :=
  if_neg fun hw => Bool.false_ne_true (hv.symm.trans hw)

theorem followStep_counter (d : Direction) (a b : Bool) (s : State) :
    (followStep d (stepped d a b true s)).tracker.counter = countStep d s.tracker.counter := by
  obtain ⟨-, hcounter, -⟩ := (followStep_course d (stepped d a b true s)).fields
  exact hcounter

/-- With a valid angle the course of the pass: the counter on its implied value, the lines and the direction of the step. -/
theorem passed_course (d : Direction) (a b : Bool) {s : State} (hv : s.tracker.angleValid = true) :
    SameCourse { s.tracker with lines := ⟨a, b, true⟩, counter := impliedCounter d, direction := d }
      (passed d a b s).tracker := by
  have hlt : (followStep d (stepped d a b true s)).tracker.counter < 1024 := by
    rw [followStep_counter]
    exact TrackerLaws.countStep_lt d _
  have hfollow := followStep_course d (stepped d a b true s)
  rw [passed_valid d a b hv]
  refine SameCourse.trans ?_ (judgeIndex_course d hlt)
  unfold SameCourse at hfollow ⊢
  rw [hfollow]
  rfl

/-- What a pass leaves for its capture: the counter on its implied value, a valid angle, and the index history of `s`. -/
theorem passed_fields (d : Direction) (a b : Bool) (s : State) :
    let t := (passed d a b s).tracker
    t.lines = ⟨a, b, true⟩ ∧ t.counter = impliedCounter d ∧ t.direction = d ∧ t.angleValid = true ∧
      t.lastPass = s.tracker.lastPass ∧ t.reverseSeen = s.tracker.reverseSeen ∧ t.timer = s.tracker.timer ∧
      t.capture = s.tracker.capture ∧ t.period = s.tracker.period ∧ t.target = s.tracker.target ∧
      t.latency = s.tracker.latency := by
  cases hv : s.tracker.angleValid with
  | true =>
    obtain ⟨hlines, hcounter, hdirection, hvalid, -, hlast, hseen, htimer, hcapture, hperiod, htarget, -, hlatency, -⟩ :=
      (passed_course d a b hv).fields
    exact ⟨hlines, hcounter, hdirection, hvalid.trans hv, hlast, hseen, htimer, hcapture, hperiod, htarget, hlatency⟩
  | false =>
    rw [passed_invalid d a b hv]
    exact ⟨rfl, rfl, rfl, rfl, rfl, rfl, rfl, rfl, rfl, rfl, rfl⟩

/-- Settles O11: the revalidated tracker, and its capture with or without a measurement. -/
theorem revalidationSetsTheAngle : Obligations.RevalidationSetsTheAngle := by
  unfold Obligations.RevalidationSetsTheAngle
  refine fun a b s hv => ⟨fun hl hdue => ?_, fun hl c hc hpass hseen => ?_, fun hl => ?_⟩
  · rw [exec_pass (quadratureStep_forward hl), passed_invalid .forward a b hv, capturePass_forward_of_none]
    · rfl
    · exact dueCapture_none hdue
  · intro m period
    have hm : interval c s.tracker.timer = m := interval_eq c s.tracker.timer
    have hperiod : nextPeriod (interval c s.tracker.timer) s.tracker.period = period := by
      rw [hm]
      cases hp : s.tracker.period with
      | none => simp only [period, hp, nextPeriod_none]
      | some p => simp only [period, hp, nextPeriod_some]
    rw [exec_pass (quadratureStep_forward hl), passed_invalid .forward a b hv, capturePass_forward_of_some (c := c)]
    · simp only [setTracker_setTracker, setTracker_tracker, hperiod]
      cases period <;> rfl
    · exact dueCapture_some hc hpass hseen
  · rw [exec_pass (quadratureStep_reverse hl), passed_invalid .reverse a b hv, capturePass_reverse]
    rfl

/-- The tracker after a forward pass. -/
def captured (a b : Bool) (s : State) : Tracker :=
  capturePass .forward { (passed .forward a b s).tracker with net := 0 }

theorem captured_held (a b : Bool) {s : State} (h : dueCapture s.tracker = none) :
    (captured a b s).capture = some s.tracker.timer ∧ (captured a b s).period = s.tracker.period ∧
      (captured a b s).target = s.tracker.target := by
  obtain ⟨-, -, -, -, hlast, hseen, htimer, hcapture, hperiod, htarget, -⟩ := passed_fields .forward a b s
  rw [captured, capturePass_forward_of_none (by rw [dueCapture, hlast, hseen, hcapture]; exact h)]
  exact ⟨congrArg some htimer, hperiod, htarget⟩

theorem captured_measured (a b : Bool) {s : State} {c : Nat} (h : dueCapture s.tracker = some c) :
    (captured a b s).capture = some s.tracker.timer ∧
      (captured a b s).period = nextPeriod (interval c s.tracker.timer) s.tracker.period ∧
      (captured a b s).target = targetAdvance s.tracker.latency (nextPeriod (interval c s.tracker.timer) s.tracker.period) := by
  obtain ⟨-, -, -, -, hlast, hseen, htimer, hcapture, hperiod, -, hlatency⟩ := passed_fields .forward a b s
  rw [captured, capturePass_forward_of_some (c := c) (by rw [dueCapture, hlast, hseen, hcapture]; exact h), ← htimer,
    ← hperiod, ← hlatency]
  exact ⟨rfl, rfl, rfl⟩

/-- Settles O13: the capture of the pass over the index history that it finds. -/
theorem indexPassMeasuresPeriod : Obligations.IndexPassMeasuresPeriod := by
  unfold Obligations.IndexPassMeasuresPeriod
  intro a b s t hlaw hl hstep
  obtain ⟨-, -, -, -, -, -, htarget, -⟩ := hlaw
  rw [exec_pass (quadratureStep_forward hl)] at hstep
  obtain rfl := Host.Outcome.next.inj hstep
  rw [setTracker_tracker, ← captured]
  refine ⟨?_, ?_, fun hdue => ?_, fun c hc hpass hback => ?_⟩
  · cases hdue : dueCapture s.tracker with
    | none => exact (captured_held a b hdue).1
    | some c => exact (captured_measured a b hdue).1
  · cases hdue : dueCapture s.tracker with
    | none =>
      obtain ⟨-, hperiod, hkept⟩ := captured_held a b hdue
      rw [hkept, hperiod]
      exact htarget
    | some c =>
      obtain ⟨-, hperiod, hcomputed⟩ := captured_measured a b hdue
      rw [hcomputed, hperiod]
  · obtain ⟨-, hperiod, -⟩ := captured_held a b (dueCapture_none hdue)
    exact hperiod
  · intro m
    obtain ⟨-, hperiod, -⟩ := captured_measured a b (dueCapture_some hc hpass hback)
    have hm : interval c s.tracker.timer = m := interval_eq c s.tracker.timer
    rw [hperiod, hm]
    refine ⟨fun hout => if_pos hout, fun hin => ⟨fun hp => ?_, fun p hp => ?_⟩⟩
    · rw [hp, nextPeriod_none, if_neg (by omega)]
    · rw [hp, nextPeriod_some, if_neg (by omega)]

/-! ## SLIP (R62) -/

theorem slipped_slip (d : Direction) (s : State) :
    slipRecord (slipped d s).control =
      if 3 - lead d ≤ s.tracker.counter ∧ s.tracker.counter ≤ 1021 - lead d then raisedRecord (slipRecord s.control)
      else slipRecord s.control := by
  unfold slipped
  split
  · exact EventRaise.raise_events_self .slip s
  · rfl

theorem judgeIndex_slip (d : Direction) {s : State} (h : s.tracker.counter < 1024) :
    slipRecord (judgeIndex d s).control = slipRecord (slipped d s).control := by
  rw [judgeIndex_eq d h]
  split
  · exact correctForward_slip _ _
  · rfl

/-- The record of SLIP after an index pass. -/
theorem passed_slip (d : Direction) (a b : Bool) (s : State) :
    slipRecord (passed d a b s).control =
      if s.tracker.angleValid = true ∧ 3 - lead d ≤ countStep d s.tracker.counter ∧
          countStep d s.tracker.counter ≤ 1021 - lead d then
        raisedRecord (slipRecord s.control)
      else slipRecord s.control := by
  cases hv : s.tracker.angleValid with
  | true =>
    have hcounter := followStep_counter d a b s
    have hslip : slipRecord (followStep d (stepped d a b true s)).control = slipRecord s.control := followStep_slip d _
    rw [passed_valid d a b hv, judgeIndex_slip d (by rw [hcounter]; exact TrackerLaws.countStep_lt d _), slipped_slip, hcounter, hslip]
    simp only [true_and]
  | false =>
    rw [passed_invalid d a b hv, if_neg fun h => Bool.false_ne_true h.1]
    rfl

/-- An index pass leaves the rest of its tracker as the correction left it. -/
theorem capturePass_fields (d : Direction) (t : Tracker) :
    (capturePass d t).counter = t.counter ∧ (capturePass d t).net = t.net ∧ (capturePass d t).angleValid = t.angleValid ∧
      (capturePass d t).direction = t.direction ∧ (capturePass d t).lastPass = some d ∧
      (capturePass d t).reverseSeen = false := by
  cases d
  · rw [capturePass_forward]
    exact ⟨rfl, rfl, rfl, rfl, rfl, rfl⟩
  · exact ⟨rfl, rfl, rfl, rfl, rfl, rfl⟩

theorem pass_leaves {d : Direction} {a b : Bool} {s t : State} (hq : quadratureStep s.tracker.lines a b = some d)
    (hstep : exec (.encoderStep a b true) s = .next t) :
    t.tracker.counter = impliedCounter d ∧ t.tracker.net = 0 ∧ t.tracker.angleValid = true ∧ t.tracker.direction = d ∧
      t.tracker.lastPass = some d ∧ t.tracker.reverseSeen = false ∧
      slipRecord t.control =
        if s.tracker.angleValid = true ∧ 3 - lead d ≤ countStep d s.tracker.counter ∧
            countStep d s.tracker.counter ≤ 1021 - lead d then
          raisedRecord (slipRecord s.control)
        else slipRecord s.control := by
  rw [exec_pass hq] at hstep
  obtain rfl := Host.Outcome.next.inj hstep
  obtain ⟨-, hcounter, hdirection, hvalid, -⟩ := passed_fields d a b s
  obtain ⟨hc, hn, hv, hd, hlast, hseen⟩ := capturePass_fields d { (passed d a b s).tracker with net := 0 }
  exact ⟨hc.trans hcounter, hn, hv.trans hvalid, hd.trans hdirection, hlast, hseen, passed_slip d a b s⟩

/-! ## A pass reads neither the lines, the direction and the net step count, nor the reverse-step mark -/

/-- `s` with the reverse-step mark set. -/
def markedBack (s : State) : State := s.setTracker { s.tracker with reverseSeen := true }

theorem requestPattern_setTracker (x : Tracker) (s : State) :
    requestPattern (s.setTracker x) = (requestPattern s).setTracker x := by
  rw [requestPattern_eq, requestPattern_eq, raiseAll_eq, raiseAll_eq _ s,
    raiseAll_control_congr _ (setTracker_control s x)]
  rfl

theorem forwardCase_setTracker (x : Tracker) (s : State) : forwardCase (s.setTracker x) = (forwardCase s).setTracker x := by
  unfold forwardCase
  rw [setTracker_store]
  split
  · rfl
  · split
    · rfl
    · split <;> rfl

theorem storeForward_setTracker (x : Tracker) (s : State) :
    storeForward (s.setTracker x) = (storeForward s).setTracker x := by
  rw [storeForward, forwardCase_setTracker]
  exact requestPattern_setTracker x (countWoven (forwardCase s))

theorem crossingEffects_forward_markedBack (s : State) :
    crossingEffects .forward (markedBack s) = markedBack (crossingEffects .forward s) := by
  have hweaving : weaving (markedBack s) = weaving s := rfl
  unfold crossingEffects
  rw [hweaving]
  split
  · dsimp only [markedBack]
    rw [storeForward_setTracker]
    simp [armEvents]
  · rfl

theorem takeCrossing_forward_markedBack (s : State) :
    takeCrossing .forward (markedBack s) = markedBack (takeCrossing .forward s) := by
  have hmark : markCrossing .forward (markedBack s) = markedBack (markCrossing .forward s) := rfl
  rw [takeCrossing, hmark, crossingEffects_forward_markedBack]
  rfl

theorem examineStep_forward_markedBack (s : State) :
    examineStep .forward (markedBack s) = markedBack (examineStep .forward s) := by
  have hnoted : (markedBack s).setTracker (noteAntipode (markedBack s).tracker) =
      markedBack (s.setTracker (noteAntipode s.tracker)) := by
    rw [noteAntipode_fields, noteAntipode_fields]
    rfl
  have hcounter : (markedBack s).tracker.counter = s.tracker.counter := rfl
  have hangle : crossingAngle .forward (markedBack s).tracker = crossingAngle .forward s.tracker := rfl
  have hallowed : ∀ u, crossingAllowed .forward (markedBack u).tracker = crossingAllowed .forward u.tracker := fun _ => rfl
  unfold examineStep
  simp only [hnoted, hcounter, hangle, hallowed, takeCrossing_forward_markedBack]
  split <;> rfl

theorem offerEvents_markedBack (s : State) : offerEvents (markedBack s) = markedBack (offerEvents s) := by
  have hfeeder : ∀ u, offerFeeder (markedBack u) = markedBack (offerFeeder u) := by
    intro u
    rw [offerFeeder_eq, offerFeeder_eq]
    rfl
  have hopen : ∀ u, offerArrivalOpen (markedBack u) = markedBack (offerArrivalOpen u) := by
    intro u
    rw [offerArrivalOpen_eq, offerArrivalOpen_eq]
    rfl
  have hclose : ∀ u, offerArrivalClose (markedBack u) = markedBack (offerArrivalClose u) := by
    intro u
    rw [offerArrivalClose_eq, offerArrivalClose_eq]
    rfl
  rw [offerEvents, hfeeder, hopen, hclose, offerEvents]

theorem correctForward_markedBack (n : Nat) (s : State) :
    correctForward n (markedBack s) = markedBack (correctForward n s) := by
  induction n generalizing s with
  | zero => rfl
  | succ n ih =>
    have hmoved : setCounter (countStep .forward (markedBack s).tracker.counter) (markedBack s) =
        markedBack (setCounter (countStep .forward s.tracker.counter) s) := rfl
    rw [correctForward, correctForward, hmoved, followStep_forward, examineStep_forward_markedBack, offerEvents_markedBack,
      ih, followStep_forward]

theorem slipped_markedBack (d : Direction) (s : State) : slipped d (markedBack s) = markedBack (slipped d s) := by
  have hcounter : (markedBack s).tracker.counter = s.tracker.counter := rfl
  unfold slipped
  rw [hcounter]
  split <;> rfl

theorem slipped_aside (d : Direction) (l : Lines) (e : Direction) (n : Int) (s : State) :
    slipped d (aside l e n s) = aside l e n (slipped d s) := by
  have hcounter : (aside l e n s).tracker.counter = s.tracker.counter := rfl
  unfold slipped
  rw [hcounter]
  split <;> rfl

theorem judgeIndex_aside (d : Direction) (l : Lines) (e : Direction) (n : Int) {s : State} (h : s.tracker.counter < 1024) :
    judgeIndex d (aside l e n s) = aside l e n (judgeIndex d s) := by
  have hcounter : (aside l e n s).tracker.counter = s.tracker.counter := rfl
  rw [judgeIndex_eq d h, judgeIndex_eq d (s := aside l e n s) h, slipped_aside, hcounter]
  split
  · exact correctForward_aside _ _ _ _ _
  · rfl

theorem judgeIndex_markedBack (d : Direction) {s : State} (h : s.tracker.counter < 1024) :
    judgeIndex d (markedBack s) = markedBack (judgeIndex d s) := by
  have hcounter : (markedBack s).tracker.counter = s.tracker.counter := rfl
  rw [judgeIndex_eq d h, judgeIndex_eq d (s := markedBack s) h, slipped_markedBack, hcounter]
  split
  · exact correctForward_markedBack _ _
  · rfl

theorem aside_self {l : Lines} {e : Direction} {n : Int} {s : State} (hl : s.tracker.lines = l)
    (he : s.tracker.direction = e) (hn : s.tracker.net = n) : aside l e n s = s := by
  subst hl he hn
  rfl

/-- The step of the lines from a net step count of 0, without index, is the counted step with the lines, the direction and
the count set aside. -/
theorem exec_from_zero {d : Direction} {a b : Bool} {s w : State} (hq : quadratureStep s.tracker.lines a b = some d)
    (hv : s.tracker.angleValid = true)
    (hw : followStep d (stepped d a b false (s.setTracker { s.tracker with net := 0 })) = w) :
    exec (.encoderStep a b false) (s.setTracker { s.tracker with net := 0 }) =
      .next (w.setTracker { noteReverse d w.tracker with net := netAfter d 0 }) :=
  exec_counted (s := s.setTracker { s.tracker with net := 0 }) hq hv hw
    (by cases d <;> exact (show (1 : Nat) < 1100 by decide))

/-- A counted step of the correction is a forward step of the lines, but for the lines, the direction and the count. -/
theorem correctForward_one {s : State} (hv : s.tracker.angleValid = true) :
    ∃ t,
      exec (.encoderStep (!s.tracker.lines.b) s.tracker.lines.a false) (s.setTracker { s.tracker with net := 0 }) =
          .next t ∧
        correctForward 1 s =
          t.setTracker
            { t.tracker with lines := s.tracker.lines, direction := s.tracker.direction, net := s.tracker.net } := by
  have hmoved : stepped .forward (!s.tracker.lines.b) s.tracker.lines.a false (s.setTracker { s.tracker with net := 0 }) =
      aside ⟨!s.tracker.lines.b, s.tracker.lines.a, false⟩ .forward 0
        (setCounter (countStep .forward s.tracker.counter) s) := rfl
  have hfollow := (congrArg (followStep .forward) hmoved).trans (followStep_aside _ _ _ _ _)
  refine ⟨_, exec_from_zero (quadratureStep_forward ⟨rfl, rfl⟩) hv hfollow, ?_⟩
  obtain ⟨hlines, -, hdirection, -, hnet, -⟩ :=
    (followStep_course .forward (setCounter (countStep .forward s.tracker.counter) s)).fields
  have hone : correctForward 1 s = followStep .forward (setCounter (countStep .forward s.tracker.counter) s) := rfl
  rw [hone]
  generalize followStep .forward (setCounter (countStep .forward s.tracker.counter) s) = w at hlines hdirection hnet
  exact (aside_self hlines hdirection hnet).symm

section
variable {a b : Bool} {s : State} (hv : s.tracker.angleValid = true)
include hv

omit hv in
theorem followStep_index_aside (d : Direction) :
    followStep d (stepped d a b false (s.setTracker { s.tracker with net := 0 })) =
      aside ⟨a, b, false⟩ d 0 (followStep d (stepped d a b true s)) :=
  followStep_aside d ⟨a, b, false⟩ d 0 (stepped d a b true s)

/-- A forward pass as its step without index, judged. -/
theorem passed_forward_of_step (hl : forwardLines s.tracker.lines a b) :
    ∃ u,
      exec (.encoderStep a b false) (s.setTracker { s.tracker with net := 0 }) = .next u ∧
        u.tracker.counter = nextCount s.tracker ∧
        judgeIndex .forward u = aside ⟨a, b, false⟩ .forward 1 (passed .forward a b s) := by
  have hcounter := followStep_counter .forward a b s
  refine ⟨_, exec_from_zero (quadratureStep_forward hl) hv (followStep_index_aside .forward), hcounter, ?_⟩
  rw [passed_valid .forward a b hv]
  exact judgeIndex_aside .forward ⟨a, b, false⟩ .forward 1 (by rw [hcounter]; exact TrackerLaws.countStep_lt _ _)

/-- A reverse pass as its step without index, judged. -/
theorem passed_reverse_of_step (hl : reverseLines s.tracker.lines a b) :
    ∃ u,
      exec (.encoderStep a b false) (s.setTracker { s.tracker with net := 0 }) = .next u ∧
        u.tracker.counter = prevCount s.tracker ∧
        judgeIndex .reverse u = markedBack (aside ⟨a, b, false⟩ .reverse (-1) (passed .reverse a b s)) := by
  have hcounter := followStep_counter .reverse a b s
  have hlt : (followStep .reverse (stepped .reverse a b true s)).tracker.counter < 1024 := by
    rw [hcounter]
    exact TrackerLaws.countStep_lt _ _
  refine ⟨_, exec_from_zero (quadratureStep_reverse hl) hv (followStep_index_aside .reverse),
    hcounter.trans (countStep_reverse _), ?_⟩
  rw [passed_valid .reverse a b hv, ← judgeIndex_aside .reverse _ _ _ hlt, ← judgeIndex_markedBack]
  · rfl
  · exact hlt

end

/-- The capture of a forward pass after a correction that was made with other lines and another count. -/
theorem capture_forward_aside {l l' : Lines} {e : Direction} {n : Int} {timer : Nat} {J : State}
    (hl : J.tracker.lines = l) (he : J.tracker.direction = e) (htimer : J.tracker.timer = timer) :
    J.setTracker (capturePass .forward { J.tracker with net := 0 }) =
      (aside l' e n J).setTracker
        { (aside l' e n J).tracker with
          lines := l, net := 0, lastPass := some .forward, reverseSeen := false, capture := some timer,
          period := (capturePass .forward { J.tracker with net := 0 }).period,
          target := (capturePass .forward { J.tracker with net := 0 }).target } := by
  subst hl he htimer
  exact congrArg J.setTracker (capturePass_forward _)

/-- The capture of a reverse pass likewise, the reverse-step mark set before. -/
theorem capture_reverse_aside {l l' : Lines} {e : Direction} {n : Int} {J : State} (hl : J.tracker.lines = l)
    (he : J.tracker.direction = e) :
    J.setTracker (capturePass .reverse { J.tracker with net := 0 }) =
      (markedBack (aside l' e n J)).setTracker
        { (markedBack (aside l' e n J)).tracker with
          lines := l, net := 0, lastPass := some .reverse, reverseSeen := false } := by
  subst hl he
  rfl

theorem judgeIndex_forward {u : State} (h : u.tracker.counter < 1024) :
    judgeIndex .forward u =
      let v := if 3 ≤ u.tracker.counter ∧ u.tracker.counter ≤ 1021 then raise .slip u else u
      if 512 ≤ u.tracker.counter then correctForward (1024 - u.tracker.counter) v
      else v.setTracker { v.tracker with counter := 0 } :=
  judgeIndex_eq .forward h

theorem judgeIndex_reverse {u : State} (h : u.tracker.counter < 1024) :
    judgeIndex .reverse u =
      let v := if 2 ≤ u.tracker.counter ∧ u.tracker.counter ≤ 1020 then raise .slip u else u
      if 511 ≤ u.tracker.counter then correctForward (1023 - u.tracker.counter) v
      else v.setTracker { v.tracker with counter := 1023 } :=
  judgeIndex_eq .reverse h

/-- Settles O12: the pass by its capture and its judgement, and the judgement count by count. -/
theorem indexPassCorrectsCounter : Obligations.IndexPassCorrectsCounter := by
  unfold Obligations.IndexPassCorrectsCounter
  refine ⟨fun a b s t _ hstep => ⟨fun hl => pass_leaves (quadratureStep_forward hl) hstep, fun hl => ?_⟩,
    fun s => ⟨rfl, fun _ => rfl, correctForward_one⟩, fun a b s hv => ⟨fun hl => ?_, fun hl => ?_⟩⟩
  · have hleft := pass_leaves (quadratureStep_reverse hl) hstep
    rw [countStep_reverse] at hleft
    exact hleft
  · intro c
    obtain ⟨u, hu, hc, hjudged⟩ := passed_forward_of_step hv hl
    refine ⟨u, _, hu, exec_pass (quadratureStep_forward hl), ?_⟩
    intro v w
    have hw : w = aside ⟨a, b, false⟩ .forward 1 (passed .forward a b s) := by
      rw [← hjudged, judgeIndex_forward (by rw [hc]; exact Nat.mod_lt _ (by decide)), hc]
    obtain ⟨hlines, -, hdirection, -, -, -, htimer, -⟩ := passed_fields .forward a b s
    rw [hw]
    exact capture_forward_aside hlines hdirection htimer
  · intro c
    obtain ⟨u, hu, hc, hjudged⟩ := passed_reverse_of_step hv hl
    refine ⟨u, _, hu, exec_pass (quadratureStep_reverse hl), ?_⟩
    intro v w
    have hw : w = markedBack (aside ⟨a, b, false⟩ .reverse (-1) (passed .reverse a b s)) := by
      rw [← hjudged, judgeIndex_reverse (by rw [hc]; exact Nat.mod_lt _ (by decide)), hc]
    obtain ⟨hlines, -, hdirection, -⟩ := passed_fields .reverse a b s
    rw [hw]
    exact capture_reverse_aside hlines hdirection

end Sys2Proof.Proofs.IndexRows
